-- ==== Sys2Proof/Word.lean ====
section
/-! DEFINITION. The bit-vector types of the model: bytes and 32-bit register words (spec/00_scope.md R10, R11). -/

namespace Sys2Proof

/-- One byte of a byte sequence in wire order (R11). -/
abbrev Byte := BitVec 8

/-- A 32-bit register, signal field or gain value (R81, R83, R85, R64). -/
abbrev Word := BitVec 32

/-- A byte sequence `b0 b1 ...`, the head first on the wire (R11). -/
abbrev Bytes := List Byte

end Sys2Proof
end

