-- ==== Sys2Proof/Config.lean ====
section
/-! DEFINITION. The configuration record `Cfg` (spec/00_scope.md R7), its well-formedness (R8), the illustrative instance
TESTCFG (92_eei_decisions.md D42), the types of the backend's answers (42_dispatcher.md R160), and the free values. -/

namespace Sys2Proof

/-- What a backend status code of 2^22 or more does (R7, R159). -/
inductive WideStatusPolicy where
  | truncate
  | malformed
  deriving DecidableEq, Repr

/-- How the float channel rounds the gain product (R7, R204). -/
inductive FmulMode where
  | convertThenMultiply
  | singleRounding
  deriving DecidableEq, Repr

/-- One entry of the static descriptor table (R24). `name` has no effect on any rule. -/
structure Descriptor where
  submoduleId : Nat
  index : Nat
  expectedLengthBytes : Nat
  name : String
  deriving DecidableEq, Repr

/-- The key of a descriptor: the pair (submodule_id, index) (R60, R180). -/
def Descriptor.key (d : Descriptor) : Nat × Nat := (d.submoduleId, d.index)

/-- The configuration record of R7. Identifiers are `Nat` because the rules only compare them, and because their
widths are themselves parameters; `Cfg.widthsFit` bounds them. -/
structure Cfg where
  cmdNop : BitVec 8
  cmdReboot : BitVec 8
  cmdPing : BitVec 8
  localUndefinedCodes : List (BitVec 8)
  errUndefined : BitVec 8
  errInternal : BitVec 8
  stUndefined : BitVec 22
  stReady : BitVec 22
  stBusy : BitVec 22
  stBooting : BitVec 22
  stPingReply : BitVec 22
  stError : BitVec 22
  submoduleIdW : Nat
  subslotW : Nat
  indexW : Nat
  cmdSub : Nat
  sigSub : Nat
  descriptors : List Descriptor
  gainKey : Nat × Nat
  wideStatusPolicy : WideStatusPolicy
  fmulMode : FmulMode
  backendUpAtReset : Bool
  deriving DecidableEq, Repr

/-- R8 condition 1: the three built-in command codes are pairwise distinct. -/
def Cfg.builtinsDistinct (c : Cfg) : Bool :=
  c.cmdNop != c.cmdReboot && c.cmdNop != c.cmdPing && c.cmdReboot != c.cmdPing

/-- R8 condition 2: `LOCAL_UNDEFINED_CODES` contains none of the built-in codes. -/
def Cfg.localExcludesBuiltins (c : Cfg) : Bool :=
  !c.localUndefinedCodes.contains c.cmdNop && !c.localUndefinedCodes.contains c.cmdReboot &&
    !c.localUndefinedCodes.contains c.cmdPing

/-- R8 condition 3: `CMD_SUB != SIG_SUB`. -/
def Cfg.submodulesDistinct (c : Cfg) : Bool := c.cmdSub != c.sigSub

/-- R8 condition 4: exactly three descriptors. -/
def Cfg.threeDescriptors (c : Cfg) : Bool := c.descriptors.length == 3

/-- R8 condition 5: the keys are pairwise distinct. -/
def Cfg.keysDistinct (c : Cfg) : Bool := decide (c.descriptors.map Descriptor.key).Nodup

/-- R8 condition 6: every expected length is between 1 and 65535. -/
def Cfg.lengthsInRange (c : Cfg) : Bool :=
  c.descriptors.all fun d => decide (1 ≤ d.expectedLengthBytes ∧ d.expectedLengthBytes ≤ 65535)

/-- R8 condition 7: `GAIN_KEY` is the key of exactly one entry, whose expected length is 4. -/
def Cfg.gainIsFourBytes (c : Cfg) : Bool :=
  (c.descriptors.filter fun d => d.key == c.gainKey).map Descriptor.expectedLengthBytes == [4]

/-- The widths of R7's table: submodule ids have `SUBMODULE_ID_W` bits and indices `INDEX_W` bits. -/
def Cfg.widthsFit (c : Cfg) : Bool :=
  decide (c.cmdSub < 2 ^ c.submoduleIdW) && decide (c.sigSub < 2 ^ c.submoduleIdW) &&
    c.descriptors.all fun d => decide (d.submoduleId < 2 ^ c.submoduleIdW ∧ d.index < 2 ^ c.indexW)

/-- A well-formed configuration: R8's seven conditions, and values of the widths R7 gives. -/
def Cfg.wf (c : Cfg) : Bool :=
  c.builtinsDistinct && c.localExcludesBuiltins && c.submodulesDistinct && c.threeDescriptors &&
    c.keysDistinct && c.lengthsInRange && c.gainIsFourBytes && c.widthsFit

/-- The answer of `Backend.shutdown()` (R160), or a call that never returns (R162). -/
inductive ShutdownAnswer where
  | done
  | never
  deriving DecidableEq, Repr, Inhabited

/-- The answer of `Backend.initialize()` (R160), or a call that never returns (R162). -/
inductive InitAnswer where
  | ok
  | fail
  | never
  deriving DecidableEq, Repr, Inhabited

/-- The answer of `Backend.execute(c, p)` (R160), or a call that never returns (R162). -/
inductive ExecuteAnswer where
  | pair (errorCode : BitVec 8) (statusCode : BitVec 32)
  | malformed
  | never
  deriving DecidableEq, Repr, Inhabited

/-- TESTCFG (92_eei_decisions.md D42): the spec's own illustrative instance, not the device's values.
DESIGN CHOICE (log 1): `State.reset` takes it. -/
def Config.testCfg : Cfg where
  cmdNop := 0x00
  cmdReboot := 0x01
  cmdPing := 0x02
  localUndefinedCodes := []
  errUndefined := 0x00
  errInternal := 0xFF
  stUndefined := 0
  stReady := 1
  stBusy := 2
  stBooting := 3
  stPingReply := 4
  stError := 5
  submoduleIdW := 32
  subslotW := 16
  indexW := 16
  cmdSub := 0x00000001
  sigSub := 0x00000002
  descriptors :=
    [⟨0x00000001, 0x007B, 4, "config_a"⟩, ⟨0x00000001, 0x007C, 2, "config_b"⟩, ⟨0x00000002, 0x007D, 4, "gain"⟩]
  gainKey := (0x00000002, 0x007D)
  wideStatusPolicy := .truncate
  fmulMode := .convertThenMultiply
  backendUpAtReset := true

/-- FREE VALUE (log 9). Byte `i` of the `n`-th draw: `Draw(bytes[k])` of R12, R27 and R28. -/
opaque Config.freeByte : Nat → Nat → BitVec 8

/-- FREE VALUE (log 10). The sign and the 22 low fraction bits of the quiet NaN of the `n`-th draw (R206). -/
opaque Config.freeNaNBits : Nat → BitVec 23

/-- FREE VALUE (log 7). What the backend answers to `shutdown` where State lists no answer (R160, R162). -/
opaque Config.freeShutdown : Nat → ShutdownAnswer

/-- FREE VALUE (log 7). What the backend answers to `initialize` where State lists no answer (R160, R162). -/
opaque Config.freeInit : Nat → InitAnswer

/-- FREE VALUE (log 7). What the backend answers to `execute(c, p)` where State lists no answer (R160, R162). -/
opaque Config.freeExecute : Nat → BitVec 8 → BitVec 23 → ExecuteAnswer

end Sys2Proof
end

