-- ==== Sys2Proof/Syntax.lean ====
section
/-! DEFINITION. The formats (spec/30_encoding.md R80): the two registers, the request record, the response record; and
`Instr`, one constructor per row of spec/opcode_table.json. -/

namespace Sys2Proof

/-- The fields of the command register (R81). -/
structure CommandReg where
  execute : Bool
  command : BitVec 8
  parameter : BitVec 23
  deriving DecidableEq, Repr

/-- The fields of the status register (R25, R83). -/
structure StatusReg where
  operational : Bool
  busy : Bool
  error : BitVec 8
  additionalStatus : BitVec 22
  deriving DecidableEq, Repr

/-- A host request: the 32-bit header word (R88) and the argument fields (R89). -/
structure Req where
  header : BitVec 32
  submoduleId : Nat
  subslot : Nat
  index : Nat
  len : BitVec 16
  maxLen : BitVec 16
  data : Bytes
  aBit1 : Bool
  aBit2 : Bool
  aCode8 : BitVec 8
  aVal23 : BitVec 23
  aVal22 : BitVec 22
  deriving DecidableEq, Repr

/-- The response codes (R92), by name; `RespCode.toByte` gives their numbers. -/
inductive RespCode where
  | ok
  | invalidLength
  | unknownParameter
  | lengthMismatch
  | bufferTooSmall
  | unsupported
  | none
  | illegalOp
  deriving DecidableEq, Repr

/-- A response (R91). `rlen` is the number of bytes of `rdata` (`Resp.rlen`). -/
structure Resp where
  code : RespCode
  rdata : Bytes
  qualityGood : Bool
  rBit1 : Bool
  rBit2 : Bool
  rCode8 : BitVec 8
  rVal23 : BitVec 23
  rVal22 : BitVec 22
  deriving DecidableEq, Repr

/-- The five dispatch classes of a fired command (R93). -/
inductive DispatchClass where
  | nop
  | localUndefined
  | reboot
  | ping
  | forward
  deriving DecidableEq, Repr

/-- The instructions: the fourteen rows of the host request port, the three transitions of the state machine, and the
five dispatch classes. Operands a row's rule ignores are kept, so that encoding loses none of them. -/
inductive Instr where
  /-- CONSUME_OUTPUT.CMD (R235) -/
  | consumeOutputCmd (subslot : Nat) (data : Bytes)
  /-- CONSUME_OUTPUT.SIG (R236) -/
  | consumeOutputSig (subslot : Nat) (data : Bytes)
  /-- CONSUME_OUTPUT.OTHER (R237) -/
  | consumeOutputOther (submoduleId : Nat) (subslot : Nat) (data : Bytes)
  /-- PRODUCE_INPUT.CMD (R238) -/
  | produceInputCmd (subslot : Nat)
  /-- PRODUCE_INPUT.SIG (R239) -/
  | produceInputSig (subslot : Nat)
  /-- PRODUCE_INPUT.OTHER (R240) -/
  | produceInputOther (submoduleId : Nat) (subslot : Nat)
  /-- WRITE_PARAMETER (R241, R181) -/
  | writeParameter (submoduleId : Nat) (index : Nat) (data : Bytes)
  /-- READ_PARAMETER (R242, R182) -/
  | readParameter (submoduleId : Nat) (index : Nat) (maxLen : BitVec 16)
  /-- CODEC_DECODE_COMMAND (R117) -/
  | codecDecodeCommand (data : Bytes)
  /-- CODEC_ENCODE_COMMAND (R118) -/
  | codecEncodeCommand (execute : Bool) (command : BitVec 8) (parameter : BitVec 23)
  /-- CODEC_DECODE_STATUS (R119) -/
  | codecDecodeStatus (data : Bytes)
  /-- CODEC_ENCODE_STATUS (R120) -/
  | codecEncodeStatus (operational : Bool) (busy : Bool) (error : BitVec 8) (additionalStatus : BitVec 22)
  /-- RESERVED_OP (R243): header[3] = 1, `op` is header[2:0] -/
  | reservedOp (op : BitVec 3)
  /-- RESERVED_HEADER_BITS (R233): `reserved` is header[31:4], not 0; `op` is header[3:0] -/
  | reservedHeaderBits (reserved : BitVec 28) (op : BitVec 4)
  /-- CMDREG.ARM (R132) -/
  | cmdregArm (command : BitVec 8) (parameter : BitVec 23)
  /-- CMDREG.RELEASE_FIRE (R133); the image's fields are ignored (R137) -/
  | cmdregReleaseFire (command : BitVec 8) (parameter : BitVec 23)
  /-- CMDREG.RELEASE_IDLE (R134); the image's fields are ignored (R137) -/
  | cmdregReleaseIdle (command : BitVec 8) (parameter : BitVec 23)
  /-- DISPATCH.NOP (R152) -/
  | dispatchNop (parameter : BitVec 23)
  /-- DISPATCH.LOCAL (R153) -/
  | dispatchLocal (command : BitVec 8) (parameter : BitVec 23)
  /-- DISPATCH.REBOOT (R154) -/
  | dispatchReboot (parameter : BitVec 23)
  /-- DISPATCH.PING (R155) -/
  | dispatchPing (parameter : BitVec 23)
  /-- DISPATCH.FORWARD (R156 to R159) -/
  | dispatchForward (command : BitVec 8) (parameter : BitVec 23)
  deriving DecidableEq, Repr

/-- The formats of the opcode table's rows (its `format` column). -/
inductive Format where
  | req
  | cmdreg
  | latched
  deriving DecidableEq, Repr

/-- An encoded unit of each format: a request record, a wire image of the command register, or the latched command as
a 32-bit word laid out as the command register (its bit 31 stands for nothing). -/
inductive Code where
  | req (r : Req)
  | cmdreg (image : Bytes)
  | latched (w : Word)
  deriving DecidableEq, Repr

/-- The format of an encoded unit. -/
def Code.format : Code → Format
  | .req _ => .req
  | .cmdreg _ => .cmdreg
  | .latched _ => .latched

/-- The format of an instruction's row in the opcode table. -/
def Instr.format : Instr → Format
  | .consumeOutputCmd _ _ | .consumeOutputSig _ _ | .consumeOutputOther _ _ _ => .req
  | .produceInputCmd _ | .produceInputSig _ | .produceInputOther _ _ => .req
  | .writeParameter _ _ _ | .readParameter _ _ _ => .req
  | .codecDecodeCommand _ | .codecEncodeCommand _ _ _ => .req
  | .codecDecodeStatus _ | .codecEncodeStatus _ _ _ _ => .req
  | .reservedOp _ | .reservedHeaderBits _ _ => .req
  | .cmdregArm _ _ | .cmdregReleaseFire _ _ | .cmdregReleaseIdle _ _ => .cmdreg
  | .dispatchNop _ | .dispatchLocal _ _ | .dispatchReboot _ | .dispatchPing _ | .dispatchForward _ _ => .latched

/-- Why a unit stands for no instruction. A request the port cannot carry has no meaning (R89, D29; R88's field widths);
a command register image that is not four bytes fails the codec (R110). -/
inductive DecodeError where
  | dataLengthNotLen
  | submoduleIdTooWide
  | subslotTooWide
  | indexTooWide
  | imageNotFourBytes
  deriving DecidableEq, Repr

/-- The answer of the decoder: an instruction, or a rejection by name. -/
inductive Decoded where
  | ok (i : Instr)
  | rejected (e : DecodeError)
  deriving DecidableEq, Repr

end Sys2Proof
end

