-- ==== Sys2Proof/Machine/State.lean ====
section
/-! DEFINITION. The state record (spec/10_state.md R20) with its reset values (R37), what the model holds beside it (the
configuration, the host's events, the backend's answers, the outputs of the latest step), and the reasons a step stops. -/

namespace Sys2Proof.Machine

/-- A call the block makes to the Command Processor (42_dispatcher.md R160). -/
inductive BackendCall where
  /-- `Backend.shutdown()` -/
  | shutdown
  /-- `Backend.initialize()` -/
  | initBackend
  /-- `Backend.execute(c, p)` -/
  | execute (command : BitVec 8) (parameter : BitVec 23)
  deriving DecidableEq, Repr

/-- What the outside presents to the block: a request on the host request port (R230), or a reset (R290). -/
inductive PortEvent where
  | request (r : Req)
  | reset
  deriving DecidableEq, Repr

/-- The machine's state. The first group is the spec's record `S` (R20); the second is what the model holds beside it. -/
structure State where
  /-- `S.pending` (R22): false is `Idle`, true is `Armed` (R35) -/
  pending : Bool
  /-- `S.latched_command` (R23) -/
  latchedCommand : BitVec 8
  /-- `S.latched_parameter` (R23) -/
  latchedParameter : BitVec 23
  /-- `S.status` (R25) -/
  status : StatusReg
  /-- `S.status_is_fresh` (R26) -/
  statusIsFresh : Bool
  /-- `S.param[k]` (R27), in descriptor order; `none` is the unwritten mark -/
  params : List (Option Bytes)
  /-- `S.sig_output` (R28); `none` is the unwritten mark -/
  sigOutput : Option Bytes
  /-- `S.sig_input` (R29) -/
  sigInput : Bytes
  /-- `S.backend_up` (R30) -/
  backendUp : Bool
  /-- `S.fatal` (R31) -/
  fatal : Bool
  /-- the configuration (R7), which no step changes -/
  cfg : Cfg
  /-- what the host will present, the next event first (log 3) -/
  inputs : List PortEvent
  /-- the response of the latest step (R91); `none` when it gave no response (log 5) -/
  response : Option Resp
  /-- the backend calls of the latest request, in order (R160; log 5) -/
  backendCalls : List BackendCall
  /-- the backend call the request in progress is blocked in (R162; log 8) -/
  outstanding : Option BackendCall
  /-- what a dispatch returned to the fire transition (R150, R133; log 14) -/
  dispatchResult : Option StatusReg
  /-- what the backend will answer to `shutdown`, in order (log 7) -/
  shutdownAnswers : List ShutdownAnswer
  /-- what the backend will answer to `initialize`, in order (log 7) -/
  initAnswers : List InitAnswer
  /-- what the backend will answer to `execute`, in order (log 7) -/
  executeAnswers : List ExecuteAnswer
  /-- how many free values have been drawn (R12 `Draw`; log 9) -/
  draws : Nat
  deriving DecidableEq, Repr

/-- Why the machine faults: never. The block has no trap mechanism; an error is an ordinary response, and `raise Fatal`
is a state (60_exceptions.md R262, R263, R267). -/
inductive Fault where
  deriving DecidableEq, Repr

/-- Why a step is refused. -/
inductive Refusal where
  /-- An arm of `exec` whose instruction has no meaning yet. Raised by no arm of this model. Safe. -/
  | notModelled (mnemonic : String)
  /-- Raised by `step` when the configuration is ill-formed: "A model refuses any other configuration: it gives it no
  meaning" (R8, ID17). Safe. -/
  | illFormedConfiguration
  /-- Raised by `step` for a request the port cannot carry: "A request with a differing count is not representable" (D29),
  or an identifier wider than its field (R89). Safe. -/
  | unrepresentableRequest (e : DecodeError)
  /-- Raised by `step` for a request presented while another is in progress: "A model gives no meaning to overlapping
  requests" (R76, ID15). Safe. -/
  | overlappingRequest
  deriving DecidableEq, Repr

/-- The state right after reset under a configuration (R37): pending 0, status not fresh, every parameter and the signal
output unwritten, the backend up exactly when `BACKEND_UP_AT_RESET`, not fatal. The latch, the status and `sig_input`,
which R37 leaves unwritten, hold 0: DESIGN CHOICE (log 11, 12, 13). -/
def State.resetOf (c : Cfg) : State where
  pending := false
  latchedCommand := 0
  latchedParameter := 0
  status := ⟨false, false, 0, 0⟩
  statusIsFresh := false
  params := c.descriptors.map fun _ => none
  sigOutput := none
  sigInput := List.replicate 8 0
  backendUp := c.backendUpAtReset
  fatal := false
  cfg := c
  inputs := []
  response := none
  backendCalls := []
  outstanding := none
  dispatchResult := none
  shutdownAnswers := []
  initAnswers := []
  executeAnswers := []
  draws := 0

/-- The machine right after reset, configured as TESTCFG: DESIGN CHOICE (log 1). -/
def State.reset : State := State.resetOf Config.testCfg

end Sys2Proof.Machine
end

