-- ==== Sys2Proof/Machine/Flags.lean ====
section
/-! DEFINITION. The status register's flags and the status values the block produces: `operational` and `busy` are its only
flags (spec/10_state.md R33), and each rule writes all four fields together (R25). -/

namespace Sys2Proof.Machine

/-- A status of a command that is not pending: operational = 1, busy = 0 (R134, R151). -/
def settled (error : BitVec 8) (st : BitVec 22) : StatusReg := ⟨true, false, error, st⟩

/-- BUSY, the status of an armed command (R132). -/
def statusBusy (c : Cfg) : StatusReg := ⟨true, true, c.errUndefined, c.stBusy⟩

/-- READY, the idle status (R134) and the default before any status was computed (R238). -/
def statusReady (c : Cfg) : StatusReg := settled c.errUndefined c.stReady

/-- The result of NOP and LOCAL (R152, R153). -/
def statusUndefined (c : Cfg) : StatusReg := settled c.errUndefined c.stUndefined

/-- The result of a successful REBOOT (R154). -/
def statusBooting (c : Cfg) : StatusReg := settled c.errUndefined c.stBooting

/-- The result of PING (R155). -/
def statusPingReply (c : Cfg) : StatusReg := settled c.errUndefined c.stPingReply

/-- The result of FORWARD with the backend down, or after a malformed reply (R157, R158). -/
def statusInternalError (c : Cfg) : StatusReg := settled c.errInternal c.stError

/-- The result of FORWARD for the backend's pair (e, st): passed through when st fits 22 bits (R156), else as
`WIDE_STATUS_POLICY` says (R159). -/
def statusOfPair (c : Cfg) (e : BitVec 8) (st : BitVec 32) : StatusReg :=
  if st.toNat < 2 ^ 22 then settled e (st.extractLsb' 0 22)
  else
    match c.wideStatusPolicy with
    | .truncate => settled e (st.extractLsb' 0 22)
    | .malformed => statusInternalError c

/-- The status `PRODUCE_INPUT` of the command submodule reports (R238). -/
def reportedStatus (s : State) : StatusReg := if s.statusIsFresh then s.status else statusReady s.cfg

end Sys2Proof.Machine
end

