-- ==== Sys2Proof/WellFormed.lean ====
section
/-! DEFINITION. Which instructions are well-formed under a configuration: operands within the widths of
spec/30_encoding.md R89, and operands that select the row they stand in (spec/opcode_table.json). -/

namespace Sys2Proof

/-- What is wrong with an ill-formed instruction. -/
inductive Violation where
  /-- a submodule id of more than `SUBMODULE_ID_W` bits (R89) -/
  | submoduleIdTooWide
  /-- a subslot of more than `SUBSLOT_W` bits (R89) -/
  | subslotTooWide
  /-- an index of more than `INDEX_W` bits (R89) -/
  | indexTooWide
  /-- data longer than the 16-bit `len` can say (R89) -/
  | dataTooLong
  /-- an `.OTHER` row whose submodule id is `CMD_SUB` or `SIG_SUB` (R234) -/
  | submoduleIsRouted
  /-- RESERVED_HEADER_BITS with header[31:4] = 0 (R233) -/
  | reservedBitsZero
  /-- DISPATCH.LOCAL with a code outside `LOCAL_UNDEFINED_CODES` (R153) -/
  | codeNotLocal
  /-- DISPATCH.FORWARD with a built-in or local code (R156) -/
  | codeNotForwarded
  deriving DecidableEq, Repr

/-- The first of a list of checks that fails. -/
def firstViolation : List (Bool × Violation) → Option Violation
  | [] => none
  | (holds, v) :: rest => if holds then firstViolation rest else some v

/-- A submodule id has `SUBMODULE_ID_W` bits (R89). -/
def submoduleFits (c : Cfg) (sub : Nat) : Bool × Violation :=
  (decide (sub < 2 ^ c.submoduleIdW), .submoduleIdTooWide)

/-- A subslot has `SUBSLOT_W` bits (R89). -/
def subslotFits (c : Cfg) (subslot : Nat) : Bool × Violation :=
  (decide (subslot < 2 ^ c.subslotW), .subslotTooWide)

/-- An index has `INDEX_W` bits (R89). -/
def indexFits (c : Cfg) (index : Nat) : Bool × Violation := (decide (index < 2 ^ c.indexW), .indexTooWide)

/-- `len` is 16 bits wide (R89). -/
def dataFits (data : Bytes) : Bool × Violation := (decide (data.length < 2 ^ 16), .dataTooLong)

/-- The submodule id is neither `CMD_SUB` nor `SIG_SUB` (R237, R240). -/
def unrouted (c : Cfg) (sub : Nat) : Bool × Violation := (sub != c.cmdSub && sub != c.sigSub, .submoduleIsRouted)

/-- The code is in none of the classes tested before FORWARD (R150). -/
def forwarded (c : Cfg) (code : BitVec 8) : Bool × Violation :=
  (code != c.cmdNop && !c.localUndefinedCodes.contains code && code != c.cmdReboot && code != c.cmdPing,
    .codeNotForwarded)

/-- The checks of an instruction, in order. -/
def Instr.checks (c : Cfg) : Instr → List (Bool × Violation)
  | .consumeOutputCmd subslot data | .consumeOutputSig subslot data => [subslotFits c subslot, dataFits data]
  | .consumeOutputOther sub subslot data =>
    [submoduleFits c sub, subslotFits c subslot, dataFits data, unrouted c sub]
  | .produceInputCmd subslot | .produceInputSig subslot => [subslotFits c subslot]
  | .produceInputOther sub subslot => [submoduleFits c sub, subslotFits c subslot, unrouted c sub]
  | .writeParameter sub index data => [submoduleFits c sub, indexFits c index, dataFits data]
  | .readParameter sub index _ => [submoduleFits c sub, indexFits c index]
  | .codecDecodeCommand data | .codecDecodeStatus data => [dataFits data]
  | .codecEncodeCommand _ _ _ | .codecEncodeStatus _ _ _ _ => []
  | .reservedOp _ => []
  | .reservedHeaderBits reserved _ => [(reserved != 0, .reservedBitsZero)]
  | .cmdregArm _ _ | .cmdregReleaseFire _ _ | .cmdregReleaseIdle _ _ => []
  | .dispatchNop _ | .dispatchReboot _ | .dispatchPing _ => []
  | .dispatchLocal code _ => [(c.localUndefinedCodes.contains code, .codeNotLocal)]
  | .dispatchForward code _ => [forwarded c code]

/-- What is wrong with the instruction, if anything. -/
def Instr.violation (c : Cfg) (i : Instr) : Option Violation := firstViolation (i.checks c)

/-- The instruction is well-formed under the configuration. -/
def Instr.wf (c : Cfg) (i : Instr) : Bool := (i.violation c).isNone

/-- The rows whose selection also rests on `S.pending` (opcode_table.json, `state`): RELEASE_FIRE when it is 1,
RELEASE_IDLE when it is 0. -/
def Instr.selectedAt (pending : Bool) : Instr → Bool
  | .cmdregReleaseFire _ _ => pending
  | .cmdregReleaseIdle _ _ => !pending
  | .consumeOutputCmd _ _ | .consumeOutputSig _ _ | .consumeOutputOther _ _ _ => true
  | .produceInputCmd _ | .produceInputSig _ | .produceInputOther _ _ => true
  | .writeParameter _ _ _ | .readParameter _ _ _ => true
  | .codecDecodeCommand _ | .codecEncodeCommand _ _ _ => true
  | .codecDecodeStatus _ | .codecEncodeStatus _ _ _ _ => true
  | .reservedOp _ | .reservedHeaderBits _ _ => true
  | .cmdregArm _ _ => true
  | .dispatchNop _ | .dispatchLocal _ _ | .dispatchReboot _ | .dispatchPing _ | .dispatchForward _ _ => true

end Sys2Proof
end

