-- ==== Sys2Proof/Decode.lean ====
section
/-! DEFINITION. Byte order (spec/00_scope.md R11), the register codec (spec/40_codec.md R111 to R114), the decoder of the
three formats (spec/30_encoding.md R81, R88 to R95), and after it the encoder. -/

namespace Sys2Proof

/-- `BE32(b0 b1 b2 b3)`, the big-endian value of four bytes (R11). -/
def be32 (b : Bytes) : Word := b.getD 0 0 ++ b.getD 1 0 ++ b.getD 2 0 ++ b.getD 3 0

/-- `be32bytes(v)`, the inverse of `be32` (R11). -/
def be32bytes (v : Word) : Bytes :=
  [v.extractLsb' 24 8, v.extractLsb' 16 8, v.extractLsb' 8 8, v.extractLsb' 0 8]

/-- The fields of a 32-bit command register value (R81). -/
def commandFields (v : Word) : CommandReg :=
  ⟨v.getLsbD 31, v.extractLsb' 23 8, v.extractLsb' 0 23⟩

/-- The 32-bit command register value of its fields (R81). -/
def commandWord (r : CommandReg) : Word := BitVec.ofBool r.execute ++ r.command ++ r.parameter

/-- The fields of a 32-bit status register value (R83). -/
def statusFields (v : Word) : StatusReg :=
  ⟨v.getLsbD 31, v.getLsbD 30, v.extractLsb' 22 8, v.extractLsb' 0 22⟩

/-- The 32-bit status register value of its fields (R83). -/
def statusWord (s : StatusReg) : Word :=
  BitVec.ofBool s.operational ++ BitVec.ofBool s.busy ++ s.error ++ s.additionalStatus

/-- `decode_command` (R111); `none` is `InvalidLength` (R110). -/
def decodeCommand (b : Bytes) : Option CommandReg :=
  if b.length = 4 then some (commandFields (be32 b)) else none

/-- `encode_command` (R112). -/
def encodeCommand (r : CommandReg) : Bytes := be32bytes (commandWord r)

/-- `decode_status` (R113); `none` is `InvalidLength` (R110). -/
def decodeStatus (b : Bytes) : Option StatusReg :=
  if b.length = 4 then some (statusFields (be32 b)) else none

/-- `encode_status` (R114). -/
def encodeStatus (s : StatusReg) : Bytes := be32bytes (statusWord s)

/-- header[3:0], the operation (R88). -/
def headerOp (h : Word) : BitVec 4 := h.extractLsb' 0 4

/-- header[31:4], reserved (R88). -/
def headerReserved (h : Word) : BitVec 28 := h.extractLsb' 4 28

/-- Why the port cannot carry a request: its data is not `len` bytes (R89, D29), or an identifier is wider than its
field (R89). -/
def unrepresentable (c : Cfg) (r : Req) : Option DecodeError :=
  if r.data.length ≠ r.len.toNat then some .dataLengthNotLen
  else if 2 ^ c.submoduleIdW ≤ r.submoduleId then some .submoduleIdTooWide
  else if 2 ^ c.subslotW ≤ r.subslot then some .subslotTooWide
  else if 2 ^ c.indexW ≤ r.index then some .indexTooWide
  else none

/-- Ops 0x0 and 0x1 route by submodule id (R234). -/
def route (c : Cfg) (sub : Nat) (cmd sig other : Instr) : Instr :=
  if sub = c.cmdSub then cmd else if sub = c.sigSub then sig else other

/-- The operation of a request whose reserved header bits are 0 (R90, R233); fields an op does not name are not looked
at (R89). -/
def decodeOp (c : Cfg) (r : Req) : Instr :=
  match (headerOp r.header).toNat with
  | 0 => route c r.submoduleId (.consumeOutputCmd r.subslot r.data) (.consumeOutputSig r.subslot r.data)
      (.consumeOutputOther r.submoduleId r.subslot r.data)
  | 1 => route c r.submoduleId (.produceInputCmd r.subslot) (.produceInputSig r.subslot)
      (.produceInputOther r.submoduleId r.subslot)
  | 2 => .writeParameter r.submoduleId r.index r.data
  | 3 => .readParameter r.submoduleId r.index r.maxLen
  | 4 => .codecDecodeCommand r.data
  | 5 => .codecEncodeCommand r.aBit1 r.aCode8 r.aVal23
  | 6 => .codecDecodeStatus r.data
  | 7 => .codecEncodeStatus r.aBit1 r.aBit2 r.aCode8 r.aVal22
  | _ => .reservedOp ((headerOp r.header).extractLsb' 0 3)

/-- The instruction of a request: the header check comes before any op (R233, R266). -/
def decodeReq (c : Cfg) (r : Req) : Decoded :=
  match unrepresentable c r with
  | some e => .rejected e
  | none =>
    if headerReserved r.header ≠ 0 then
      .ok (.reservedHeaderBits (headerReserved r.header) (headerOp r.header))
    else .ok (decodeOp c r)

/-- The transition a command register image selects: execute = 1 arms; execute = 0 fires when `S.pending` is 1 and is
idle otherwise (R130). -/
def transitionOf (pending : Bool) (r : CommandReg) : Instr :=
  if r.execute then .cmdregArm r.command r.parameter
  else if pending then .cmdregReleaseFire r.command r.parameter
  else .cmdregReleaseIdle r.command r.parameter

/-- The instruction of a command register image. -/
def decodeImage (pending : Bool) (b : Bytes) : Decoded :=
  match decodeCommand b with
  | none => .rejected .imageNotFourBytes
  | some r => .ok (transitionOf pending r)

/-- The dispatch class of a command code, tested in the order of R150. -/
def classOf (c : Cfg) (code : BitVec 8) : DispatchClass :=
  if code = c.cmdNop then .nop
  else if c.localUndefinedCodes.contains code then .localUndefined
  else if code = c.cmdReboot then .reboot
  else if code = c.cmdPing then .ping
  else .forward

/-- The dispatch a latched command selects (R93, R150). -/
def dispatchOf (c : Cfg) (code : BitVec 8) (p : BitVec 23) : Instr :=
  match classOf c code with
  | .nop => .dispatchNop p
  | .localUndefined => .dispatchLocal code p
  | .reboot => .dispatchReboot p
  | .ping => .dispatchPing p
  | .forward => .dispatchForward code p

/-- The instruction of a latched command word: bits 30-23 are the code (mask 0x7F800000), bits 22-0 the parameter. -/
def decodeLatched (c : Cfg) (w : Word) : Decoded := .ok (dispatchOf c (w.extractLsb' 23 8) (w.extractLsb' 0 23))

/-- The decoder: total on every unit of the three formats; `pending` is `S.pending`. -/
def decode (c : Cfg) (pending : Bool) : Code → Decoded
  | .req r => decodeReq c r
  | .cmdreg b => decodeImage pending b
  | .latched w => decodeLatched c w

/-- A request whose fields are all 0 but for the header word. -/
def Req.ofHeader (h : Word) : Req where
  header := h
  submoduleId := 0
  subslot := 0
  index := 0
  len := 0
  maxLen := 0
  data := []
  aBit1 := false
  aBit2 := false
  aCode8 := 0
  aVal23 := 0
  aVal22 := 0

/-- A request carrying data: `len` is the number of bytes (R89). -/
def Req.withData (r : Req) (data : Bytes) : Req := { r with len := BitVec.ofNat 16 data.length, data := data }

/-- The header word of op `op` with the reserved bits 0 (R88). -/
def headerOf (op : BitVec 4) : Word := 0#28 ++ op

/-- A `CONSUME_OUTPUT` request (op 0x0). -/
def consumeReq (sub subslot : Nat) (data : Bytes) : Req :=
  ({ Req.ofHeader (headerOf 0x0) with submoduleId := sub, subslot := subslot }).withData data

/-- A `PRODUCE_INPUT` request (op 0x1). -/
def produceReq (sub subslot : Nat) : Req :=
  { Req.ofHeader (headerOf 0x1) with submoduleId := sub, subslot := subslot }

/-- A `WRITE_PARAMETER` request (op 0x2). -/
def writeReq (sub index : Nat) (data : Bytes) : Req :=
  ({ Req.ofHeader (headerOf 0x2) with submoduleId := sub, index := index }).withData data

/-- A `READ_PARAMETER` request (op 0x3). -/
def readReq (sub index : Nat) (maxLen : BitVec 16) : Req :=
  { Req.ofHeader (headerOf 0x3) with submoduleId := sub, index := index, maxLen := maxLen }

/-- The word of a latched command: the command register layout with bit 31 = 0. -/
def latchedWord (code : BitVec 8) (p : BitVec 23) : Word := commandWord ⟨false, code, p⟩

/-- The encoder: the unit of an instruction in its row's format, every field its row does not name being 0. -/
def encode (c : Cfg) : Instr → Code
  | .consumeOutputCmd subslot data => .req (consumeReq c.cmdSub subslot data)
  | .consumeOutputSig subslot data => .req (consumeReq c.sigSub subslot data)
  | .consumeOutputOther sub subslot data => .req (consumeReq sub subslot data)
  | .produceInputCmd subslot => .req (produceReq c.cmdSub subslot)
  | .produceInputSig subslot => .req (produceReq c.sigSub subslot)
  | .produceInputOther sub subslot => .req (produceReq sub subslot)
  | .writeParameter sub index data => .req (writeReq sub index data)
  | .readParameter sub index maxLen => .req (readReq sub index maxLen)
  | .codecDecodeCommand data => .req ((Req.ofHeader (headerOf 0x4)).withData data)
  | .codecEncodeCommand e code p =>
    .req { Req.ofHeader (headerOf 0x5) with aBit1 := e, aCode8 := code, aVal23 := p }
  | .codecDecodeStatus data => .req ((Req.ofHeader (headerOf 0x6)).withData data)
  | .codecEncodeStatus o b e st =>
    .req { Req.ofHeader (headerOf 0x7) with aBit1 := o, aBit2 := b, aCode8 := e, aVal22 := st }
  | .reservedOp op => .req (Req.ofHeader (headerOf (1#1 ++ op)))
  | .reservedHeaderBits reserved op => .req (Req.ofHeader (reserved ++ op))
  | .cmdregArm code p => .cmdreg (encodeCommand ⟨true, code, p⟩)
  | .cmdregReleaseFire code p => .cmdreg (encodeCommand ⟨false, code, p⟩)
  | .cmdregReleaseIdle code p => .cmdreg (encodeCommand ⟨false, code, p⟩)
  | .dispatchNop p => .latched (latchedWord c.cmdNop p)
  | .dispatchLocal code p => .latched (latchedWord code p)
  | .dispatchReboot p => .latched (latchedWord c.cmdReboot p)
  | .dispatchPing p => .latched (latchedWord c.cmdPing p)
  | .dispatchForward code p => .latched (latchedWord code p)

/-- The request a table word stands for: the word is the header, every other bit 0 (log 16). -/
def tableRequest (nbits w : Nat) : Req := Req.ofHeader (BitVec.ofNat 32 (w % 2 ^ nbits))

/-- The instruction the decoder reads from a table word of at most 32 bits, presented to the block after reset:
configuration TESTCFG (log 1) and `S.pending` = 0. -/
def decodeTableWord (nbits w : Nat) : Option Instr :=
  if nbits ≤ 32 then
    match decode Config.testCfg false (.req (tableRequest nbits w)) with
    | .ok i => some i
    | .rejected _ => none
  else none

end Sys2Proof
end

