-- ==== Sys2Proof/Machine/Operands.lean ====
section
/-! DEFINITION. Operand assembly (spec/30_encoding.md R94): the fields of the signal buffers, the gain, parameter keys and
the lookup of a key, and the numbers and lengths of a response. -/

namespace Sys2Proof.Machine

/-- `int_field`, bytes 0-3 of a signal buffer (R85, R86, R94). -/
def intField (buf : Bytes) : Word := be32 (buf.take 4)

/-- `float_field_bits`, bytes 4-7 of a signal buffer (R85, R86, R94). -/
def floatField (buf : Bytes) : Word := be32 ((buf.drop 4).take 4)

/-- The signal buffer of its two fields: `int_out || float_out` (R85). -/
def signalBuffer (i f : Word) : Bytes := be32bytes i ++ be32bytes f

/-- `lookup(sub, idx)`: the descriptor both of whose key parts match (R180); `none` is `NotFound`. -/
def lookup (c : Cfg) (sub idx : Nat) : Option Nat :=
  c.descriptors.findIdx? fun d => d.submoduleId == sub && d.index == idx

/-- `DESCRIPTORS[k].expected_length_bytes`. -/
def expectedLength (c : Cfg) (k : Nat) : Nat := (c.descriptors[k]?.map Descriptor.expectedLengthBytes).getD 0

/-- `k_gain`, the entry whose key is `GAIN_KEY` (R64); a well-formed configuration has one (R8; log 22). -/
def gainEntry (c : Cfg) : Nat := (lookup c c.gainKey.1 c.gainKey.2).getD 0

/-- The word of the latch: `S.latched_command` and `S.latched_parameter` in the command register layout. -/
def latchWord (s : State) : Word := latchedWord s.latchedCommand s.latchedParameter

end Sys2Proof.Machine

namespace Sys2Proof

/-- The number of a response code (R92). -/
def RespCode.toByte : RespCode → Byte
  | .ok => 0x00
  | .invalidLength => 0x01
  | .unknownParameter => 0x02
  | .lengthMismatch => 0x03
  | .bufferTooSmall => 0x04
  | .unsupported => 0x05
  | .none => 0x06
  | .illegalOp => 0x07

/-- `rlen`, the number of bytes of `rdata` (R91). -/
def Resp.rlen (r : Resp) : BitVec 16 := BitVec.ofNat 16 r.rdata.length

end Sys2Proof
end

