-- ==== Sys2Proof/Machine/Ops.lean ====
section
/-! DEFINITION. The operations the rules share (spec/00_scope.md R12): responses (R232), `Draw`, the parameter store's
`ParamRead` and `ParamWrite` (R27), the signal output (R28), the backend's calls (R160, R162), `raise Fatal` (R263), and the
reset that alone leaves the fatal state (R268, R290). -/

namespace Sys2Proof.Machine

/-- The canonical form of the parameter store: one entry per descriptor, each unwritten or of its descriptor's length
(R27). -/
def paramsFit : List Descriptor → List (Option Bytes) → Bool
  | [], [] => true
  | d :: ds, p :: ps =>
    (match p with
      | none => true
      | some b => b.length == d.expectedLengthBytes) && paramsFit ds ps
  | [], _ :: _ => false
  | _ :: _, [] => false

/-- The stored buffers have the lengths of R20: each parameter entry its descriptor's, the signal buffers 8 bytes. -/
def Memory.wf (s : State) : Bool :=
  paramsFit s.cfg.descriptors s.params &&
    (match s.sigOutput with
      | none => true
      | some b => b.length == 8) &&
    s.sigInput.length == 8

/-- A response whose fields but the code are 0 (R91, R232). -/
def bareResp (code : RespCode) : Resp := ⟨code, [], false, false, false, 0, 0, 0⟩

/-- `respond(OK, rlen, rdata, quality_good)` with no decoded fields (R232). -/
def dataResp (rdata : Bytes) (qualityGood : Bool) : Resp := ⟨.ok, rdata, qualityGood, false, false, 0, 0, 0⟩

/-- `respond` ends a step with one response (R232). -/
def respond (r : Resp) (s : State) : State := { s with response := some r }

/-- A rejected request: the error code, and no other write (R232, R261). -/
def reject (code : RespCode) (s : State) : State := respond (bareResp code) s

/-- A request has begun: the outputs of the step before are gone (log 5). -/
def beginRequest (s : State) : State := { s with response := none, backendCalls := [] }

/-- `Draw(bytes[n])` (R12, R27, R28): free bytes, fresh at each draw. -/
def drawBytes (n : Nat) (s : State) : Bytes × State :=
  ((List.range n).map (Config.freeByte s.draws), { s with draws := s.draws + 1 })

/-- `ParamRead(k)` (R12, R27): the stored bytes, or a fresh draw while the entry is unwritten. -/
def paramRead (k : Nat) (s : State) : Bytes × State :=
  match s.params.getD k none with
  | some b => (b, s)
  | none => drawBytes (expectedLength s.cfg k) s

/-- `ParamWrite(k, bytes)` (R12, R181): stores the bytes verbatim and clears the unwritten mark. -/
def paramWrite (k : Nat) (b : Bytes) (s : State) : State := { s with params := s.params.set k (some b) }

/-- The signal output buffer, or a fresh draw while it is unwritten (R28, R201). -/
def readSigOutput (s : State) : Bytes × State :=
  match s.sigOutput with
  | some b => (b, s)
  | none => drawBytes 8 s

/-- A backend call leaves the block (R160). -/
def recordCall (call : BackendCall) (s : State) : State := { s with backendCalls := s.backendCalls ++ [call] }

/-- `Backend.shutdown()`: the call, then the listed answer, or a free one where none is listed (R160, R162, log 7). -/
def callShutdown (s : State) : ShutdownAnswer × State :=
  match s.shutdownAnswers with
  | a :: rest => (a, recordCall .shutdown { s with shutdownAnswers := rest })
  | [] => (Config.freeShutdown s.draws, recordCall .shutdown { s with draws := s.draws + 1 })

/-- `Backend.initialize()`, likewise. -/
def callInit (s : State) : InitAnswer × State :=
  match s.initAnswers with
  | a :: rest => (a, recordCall .initBackend { s with initAnswers := rest })
  | [] => (Config.freeInit s.draws, recordCall .initBackend { s with draws := s.draws + 1 })

/-- `Backend.execute(c, p)`, likewise. -/
def callExecute (c : BitVec 8) (p : BitVec 23) (s : State) : ExecuteAnswer × State :=
  match s.executeAnswers with
  | a :: rest => (a, recordCall (.execute c p) { s with executeAnswers := rest })
  | [] => (Config.freeExecute s.draws c p, recordCall (.execute c p) { s with draws := s.draws + 1 })

/-- A dispatch returns a status (R150). -/
def returnStatus (st : StatusReg) (s : State) : State := { s with dispatchResult := some st }

/-- `raise Fatal` (R263): `S.fatal` is set, nothing else of the step is committed, and there is no response. -/
def raiseFatal (s : State) : State := { s with fatal := true, dispatchResult := none, response := none }

/-- A backend call does not return (R162): the request stays in progress, commits nothing and has no response (log 8). -/
def blockOn (call : BackendCall) (s : State) : State :=
  { s with outstanding := some call, dispatchResult := none, response := none }

/-- The request's step ended without completing: Fatal was raised, or a backend call did not return. -/
def State.aborted (s : State) : Bool := s.fatal || s.outstanding.isSome

/-- `fatal_out` always shows `S.fatal` (R91). -/
def State.fatalOut (s : State) : Bool := s.fatal

/-- Reset (R290, R37): every element of `S` at its reset value, the configuration kept, a request in progress abandoned
with no response. What the outside will present and answer is not the block's and stays (log 26). -/
def resetEvent (s : State) : State :=
  { State.resetOf s.cfg with
    inputs := s.inputs
    shutdownAnswers := s.shutdownAnswers
    initAnswers := s.initAnswers
    executeAnswers := s.executeAnswers
    draws := s.draws }

end Sys2Proof.Machine
end

