-- ==== Sys2Proof/Machine/CodecPort.lean ====
section
/-! DEFINITION. The CODEC_* rows: host ops that expose the stateless codec (spec/40_codec.md R117 to R120). -/

namespace Sys2Proof.Machine

/-- CODEC_DECODE_COMMAND (R117). -/
def execCodecDecodeCommand (data : Bytes) (s : State) : Host.Outcome State Fault Refusal :=
  match decodeCommand data with
  | none => .next (reject .invalidLength s)
  | some r =>
    .next (respond { bareResp .ok with rBit1 := r.execute, rCode8 := r.command, rVal23 := r.parameter } s)

/-- CODEC_ENCODE_COMMAND (R118). -/
def execCodecEncodeCommand (execute : Bool) (command : BitVec 8) (parameter : BitVec 23) (s : State) :
    Host.Outcome State Fault Refusal :=
  .next (respond (dataResp (encodeCommand ⟨execute, command, parameter⟩) false) s)

/-- CODEC_DECODE_STATUS (R119). -/
def execCodecDecodeStatus (data : Bytes) (s : State) : Host.Outcome State Fault Refusal :=
  match decodeStatus data with
  | none => .next (reject .invalidLength s)
  | some r =>
    .next (respond { bareResp .ok with
      rBit1 := r.operational, rBit2 := r.busy, rCode8 := r.error, rVal22 := r.additionalStatus } s)

/-- CODEC_ENCODE_STATUS (R120). -/
def execCodecEncodeStatus (operational busy : Bool) (error : BitVec 8) (additionalStatus : BitVec 22) (s : State) :
    Host.Outcome State Fault Refusal :=
  .next (respond (dataResp (encodeStatus ⟨operational, busy, error, additionalStatus⟩) false) s)

end Sys2Proof.Machine
end

