-- ==== Sys2Proof/Machine/Dispatcher.lean ====
section
/-! DEFINITION. The DISPATCH rows: the command dispatcher (spec/42_dispatcher.md R150 to R163). A dispatch returns a status or
raises Fatal; it writes no element of ExecutionState (R163). -/

namespace Sys2Proof.Machine

/-- NOP (R152). -/
def dispatchNop (s : State) : State := returnStatus (statusUndefined s.cfg) s

/-- LOCAL (R153). -/
def dispatchLocal (s : State) : State := returnStatus (statusUndefined s.cfg) s

/-- REBOOT (R154): shutdown always, then initialize; BOOTING, or Fatal when it fails. -/
def dispatchReboot (s : State) : State :=
  match callShutdown s with
  | (.never, s1) => blockOn .shutdown s1
  | (.done, s1) =>
    match callInit s1 with
    | (.ok, s2) => returnStatus (statusBooting s.cfg) { s2 with backendUp := true }
    | (.fail, s2) => raiseFatal s2
    | (.never, s2) => blockOn .initBackend s2

/-- PING (R155). -/
def dispatchPing (s : State) : State := returnStatus (statusPingReply s.cfg) s

/-- FORWARD: with the backend up the command goes to it verbatim (R156, R158, R159); with the backend down it is not
called (R157). -/
def dispatchForward (c : BitVec 8) (p : BitVec 23) (s : State) : State :=
  if s.backendUp then
    match callExecute c p s with
    | (.pair e st, s1) => returnStatus (statusOfPair s.cfg e st) s1
    | (.malformed, s1) => returnStatus (statusInternalError s.cfg) s1
    | (.never, s1) => blockOn (.execute c p) s1
  else returnStatus (statusInternalError s.cfg) s

/-- `dispatch(c, p)` (R150). -/
def dispatch (c : BitVec 8) (p : BitVec 23) (s : State) : State :=
  match classOf s.cfg c with
  | .nop => dispatchNop s
  | .localUndefined => dispatchLocal s
  | .reboot => dispatchReboot s
  | .ping => dispatchPing s
  | .forward => dispatchForward c p s

/-- DISPATCH.NOP; the parameter is ignored (R152). -/
def execDispatchNop (_p : BitVec 23) (s : State) : Host.Outcome State Fault Refusal := .next (dispatchNop s)

/-- DISPATCH.LOCAL; the code and the parameter are ignored (R153). -/
def execDispatchLocal (_c : BitVec 8) (_p : BitVec 23) (s : State) : Host.Outcome State Fault Refusal :=
  .next (dispatchLocal s)

/-- DISPATCH.REBOOT; the parameter is ignored (R154). -/
def execDispatchReboot (_p : BitVec 23) (s : State) : Host.Outcome State Fault Refusal := .next (dispatchReboot s)

/-- DISPATCH.PING; the parameter is ignored (R155). -/
def execDispatchPing (_p : BitVec 23) (s : State) : Host.Outcome State Fault Refusal := .next (dispatchPing s)

/-- DISPATCH.FORWARD (R156 to R159). -/
def execDispatchForward (c : BitVec 8) (p : BitVec 23) (s : State) : Host.Outcome State Fault Refusal :=
  .next (dispatchForward c p s)

end Sys2Proof.Machine
end

