-- ==== Sys2Proof/Machine/CmdReg.lean ====
section
/-! DEFINITION. The CMDREG rows: the command-execution state machine (spec/41_state_machine.md R130 to R139). -/

namespace Sys2Proof.Machine

/-- `ARM(reg)` (R132). -/
def arm (command : BitVec 8) (parameter : BitVec 23) (s : State) : State :=
  { s with
    latchedCommand := command
    latchedParameter := parameter
    pending := true
    status := statusBusy s.cfg }

/-- The writes of `FIRE()` after its dispatch (R133): the returned status, and back to Idle. A dispatch that raised Fatal
or did not return leaves nothing to commit (R263, R162). -/
def commitFire (s : State) : State :=
  match s.dispatchResult with
  | some st => { s with status := st, pending := false, dispatchResult := none }
  | none => s

/-- `FIRE()` (R133): the latch is dispatched and keeps its value. -/
def fire (s : State) : State := commitFire (dispatch s.latchedCommand s.latchedParameter s)

/-- `IDLE()` (R134). -/
def idle (s : State) : State := { s with status := statusReady s.cfg }

/-- A completed evaluation marks the status fresh (R135). -/
def markFresh (s : State) : State := if s.aborted then s else { s with statusIsFresh := true }

/-- `SM_EVAL(b)` for a 4-byte command register image (R130). -/
def smEval (b : Bytes) (s : State) : State :=
  let reg := commandFields (be32 b)
  markFresh
    (if reg.execute then arm reg.command reg.parameter s
      else if s.pending then fire s
      else idle s)

/-- CMDREG.ARM (R132). -/
def execCmdregArm (command : BitVec 8) (parameter : BitVec 23) (s : State) : Host.Outcome State Fault Refusal :=
  .next (arm command parameter s)

/-- CMDREG.RELEASE_FIRE (R133); the image's command and parameter are ignored (R137). -/
def execCmdregReleaseFire (_c : BitVec 8) (_p : BitVec 23) (s : State) : Host.Outcome State Fault Refusal :=
  .next (fire s)

/-- CMDREG.RELEASE_IDLE (R134); the image's command and parameter are ignored (R137). -/
def execCmdregReleaseIdle (_c : BitVec 8) (_p : BitVec 23) (s : State) : Host.Outcome State Fault Refusal :=
  .next (idle s)

end Sys2Proof.Machine
end

