-- ==== Sys2Proof/Machine/Float.lean ====
section
/-! DEFINITION. The float channel (spec/00_scope.md R13, spec/30_encoding.md R87, spec/44_signal_transform.md R204 to R206):
IEEE 754 binary32 data, round to nearest with ties to even, and the product of a binary32 value and an unsigned gain.
Values are computed exactly as `m * 2^e` and rounded once, where the rule rounds. -/

namespace Sys2Proof.Machine

/-- A binary32 datum (R87). A finite nonzero value is `(-1)^neg * m * 2^e` with `m > 0`. -/
inductive F32 where
  | nan
  | inf (neg : Bool)
  | zero (neg : Bool)
  | finite (neg : Bool) (m : Nat) (e : Int)
  deriving DecidableEq, Repr

/-- `f32(bits)` (R13), by the classes of R87. -/
def f32 (bits : Word) : F32 :=
  let neg := bits.getLsbD 31
  let e := (bits.extractLsb' 23 8).toNat
  let f := (bits.extractLsb' 0 23).toNat
  if e = 255 then if f = 0 then .inf neg else .nan
  else if e = 0 then if f = 0 then .zero neg else .finite neg f (-149)
  else .finite neg (2 ^ 23 + f) ((e : Int) - 150)

/-- The magnitude bits of infinity (R87: e = 255, f = 0). -/
def infBits : Nat := 255 * 2 ^ 23

/-- The pattern of a sign and 31 magnitude bits. -/
def signed (neg : Bool) (mag : Nat) : Word := BitVec.ofNat 32 ((if neg then 2 ^ 31 else 0) + mag)

/-- `m / 2^d` rounded to the nearest integer, a tie to the even one (roundTiesToEven). -/
def roundShift (m d : Nat) : Nat :=
  let q := m / 2 ^ d
  let r := 2 * (m % 2 ^ d)
  if 2 ^ d < r ∨ (r = 2 ^ d ∧ q % 2 = 1) then q + 1 else q

/-- The exponent of the last place of the binary32 numbers at `m * 2^e`: 23 below the leading bit, but not below the
subnormals' 2^-149. -/
def quantum (m : Nat) (e : Int) : Int := max ((Nat.log2 m : Int) + e - 23) (-149)

/-- How many units of 2^`q` the value `m * 2^e` has, rounded where the unit is coarser than `2^e`. -/
def unitsOf (m : Nat) (e q : Int) : Nat :=
  if q ≤ e then m * 2 ^ (e - q).toNat else roundShift m (q - e).toNat

/-- The magnitude bits of `n` units of 2^`q`: a significand of 24 bits carries into the exponent field, and a magnitude
past the largest finite one is infinity. -/
def magnitudeOf (n : Nat) (q : Int) : Nat := min ((q + 149).toNat * 2 ^ 23 + n) infBits

/-- `round32` of the exact value `(-1)^neg * m * 2^e`, `m > 0` (R13): roundTiesToEven, gradual underflow, overflow to
infinity. -/
def round32 (neg : Bool) (m : Nat) (e : Int) : Word :=
  signed neg (magnitudeOf (unitsOf m e (quantum m e)) (quantum m e))

/-- `cvt_u32_f32(g)` (R13). -/
def cvtU32F32 (g : Word) : Word := if g = 0 then signed false 0 else round32 false g.toNat 0

/-- `fmul32(a, b)` (R13, R205); `none` is a NaN. -/
def fmul32 (a b : Word) : Option Word :=
  match f32 a, f32 b with
  | .nan, _ | _, .nan => none
  | .inf _, .zero _ | .zero _, .inf _ => none
  | .inf n, .inf n' | .inf n, .finite n' _ _ | .finite n _ _, .inf n' => some (signed (n ^^ n') infBits)
  | .zero n, .zero n' | .zero n, .finite n' _ _ | .finite n _ _, .zero n' => some (signed (n ^^ n') 0)
  | .finite n m e, .finite n' m' e' => some (round32 (n ^^ n') (m * m') (e + e'))

/-- The product of a binary32 pattern and the gain with one rounding (R204 `SINGLE_ROUNDING`, R205); `none` is a NaN. -/
def fmulSingle (fb g : Word) : Option Word :=
  match f32 fb with
  | .nan => none
  | .inf n => if g = 0 then none else some (signed n infBits)
  | .zero n => some (signed n 0)
  | .finite n m e => if g = 0 then some (signed n 0) else some (round32 n (m * g.toNat) e)

/-- `FMUL(fb, g)` (R204); `none` is a NaN, whose pattern R206 leaves free. -/
def fmul (mode : FmulMode) (fb g : Word) : Option Word :=
  match mode with
  | .convertThenMultiply => fmul32 fb (cvtU32F32 g)
  | .singleRounding => fmulSingle fb g

/-- The quiet NaN of a free sign and 22 free fraction bits (R206): exponent 255, fraction bit 22 = 1. -/
def quietNaN (free : BitVec 23) : Word := free.extractLsb' 22 1 ++ 0x1FF#9 ++ free.extractLsb' 0 22

/-- The pattern is a quiet NaN (R87, R206). -/
def isQuietNaN (w : Word) : Bool := w.extractLsb' 22 9 == 0x1FF#9

/-- The pattern is a NaN, quiet or signalling (R87). -/
def isNaN (w : Word) : Bool := w.extractLsb' 23 8 == 0xFF#8 && w.extractLsb' 0 23 != 0

end Sys2Proof.Machine
end

