-- ==== Sys2Proof/Machine/Signal.lean ====
section
/-! DEFINITION. The signal transform (spec/44_signal_transform.md R200 to R208). -/

namespace Sys2Proof.Machine

/-- `set_output(b)` (R200): verbatim, any 8 bytes; clears the unwritten mark. -/
def setOutput (b : Bytes) (s : State) : State := { s with sigOutput := some b }

/-- The integer product: the low 32 bits, no overflow signalled (R203). -/
def intProduct (i g : Word) : Word := i * g

/-- The pattern of a float product: a NaN result is a fresh draw of a quiet NaN (R206), any other is as computed. -/
def floatProduct (fb g : Word) (s : State) : Word × State :=
  match fmul s.cfg.fmulMode fb g with
  | some w => (w, s)
  | none => (quietNaN (Config.freeNaNBits s.draws), { s with draws := s.draws + 1 })

/-- The gain `g = BE32(ParamRead(k_gain))`, read afresh on every use (R64, R202). -/
def readGain (s : State) : Word × State :=
  let (b, s1) := paramRead (gainEntry s.cfg) s
  (be32 b, s1)

/-- `compute_input()` (R201): reads the output once and the gain, multiplies both channels, and writes the result to
`S.sig_input` (R208). -/
def computeInput (s : State) : Bytes × State :=
  let (o, s1) := readSigOutput s
  let (g, s2) := readGain s1
  let (f, s3) := floatProduct (floatField o) g s2
  let r := signalBuffer (intProduct (intField o) g) f
  (r, { s3 with sigInput := r })

end Sys2Proof.Machine
end

