-- ==== Sys2Proof/Machine/Cyclic.lean ====
section
/-! DEFINITION. The CONSUME_OUTPUT and PRODUCE_INPUT rows: the cyclic data path (spec/45_entry_points.md R234 to R240). The
subslot has no effect on any rule (R244). -/

namespace Sys2Proof.Machine

/-- A consume is `OK` once its evaluation completes, and has no response otherwise (R235, R263, R162). -/
def respondIfComplete (s : State) : State := if s.aborted then s else respond (dataResp [] false) s

/-- CONSUME_OUTPUT.CMD (R235). -/
def execConsumeOutputCmd (_subslot : Nat) (data : Bytes) (s : State) : Host.Outcome State Fault Refusal :=
  .next (if data.length = 4 then respondIfComplete (smEval data s) else reject .unsupported s)

/-- CONSUME_OUTPUT.SIG (R236). -/
def execConsumeOutputSig (_subslot : Nat) (data : Bytes) (s : State) : Host.Outcome State Fault Refusal :=
  .next (if data.length = 8 then respond (dataResp [] false) (setOutput data s) else reject .unsupported s)

/-- CONSUME_OUTPUT.OTHER (R237). -/
def execConsumeOutputOther (_sub _subslot : Nat) (_data : Bytes) (s : State) : Host.Outcome State Fault Refusal :=
  .next (reject .unsupported s)

/-- PRODUCE_INPUT.CMD (R238). -/
def execProduceInputCmd (_subslot : Nat) (s : State) : Host.Outcome State Fault Refusal :=
  .next (respond (dataResp (encodeStatus (reportedStatus s)) true) s)

/-- PRODUCE_INPUT.SIG (R239). -/
def execProduceInputSig (_subslot : Nat) (s : State) : Host.Outcome State Fault Refusal :=
  let (r, s1) := computeInput s
  .next (respond (dataResp r true) s1)

/-- PRODUCE_INPUT.OTHER (R240). -/
def execProduceInputOther (_sub _subslot : Nat) (s : State) : Host.Outcome State Fault Refusal :=
  .next (reject .none s)

end Sys2Proof.Machine
end

