-- ==== Sys2Proof/Machine/Parameter.lean ====
section
/-! DEFINITION. The WRITE_PARAMETER and READ_PARAMETER rows: the parameter store (spec/43_parameter_store.md R180 to R187;
spec/45_entry_points.md R241, R242). The key is tested before the length (R266). -/

namespace Sys2Proof.Machine

/-- WRITE_PARAMETER (R181). -/
def execWriteParameter (sub index : Nat) (data : Bytes) (s : State) : Host.Outcome State Fault Refusal :=
  match lookup s.cfg sub index with
  | none => .next (reject .unknownParameter s)
  | some k =>
    .next (if data.length = expectedLength s.cfg k then respond (dataResp [] false) (paramWrite k data s)
      else reject .lengthMismatch s)

/-- READ_PARAMETER (R182): exactly the entry's bytes, whatever larger size is offered. -/
def execReadParameter (sub index : Nat) (maxLen : BitVec 16) (s : State) : Host.Outcome State Fault Refusal :=
  match lookup s.cfg sub index with
  | none => .next (reject .unknownParameter s)
  | some k =>
    if maxLen.toNat < expectedLength s.cfg k then .next (reject .bufferTooSmall s)
    else
      let (b, s1) := paramRead k s
      .next (respond (dataResp b false) s1)

end Sys2Proof.Machine
end

