-- ==== Sys2Proof/Machine/Reserved.lean ====
section
/-! DEFINITION. The reserved encodings of the request header: answered `ILLEGAL_OP`, with no other effect
(spec/30_encoding.md R95; spec/45_entry_points.md R233, R243). -/

namespace Sys2Proof.Machine

/-- RESERVED_OP (R243). -/
def execReservedOp (_op : BitVec 3) (s : State) : Host.Outcome State Fault Refusal := .next (reject .illegalOp s)

/-- RESERVED_HEADER_BITS (R233). -/
def execReservedHeaderBits (_reserved : BitVec 28) (_op : BitVec 4) (s : State) : Host.Outcome State Fault Refusal :=
  .next (reject .illegalOp s)

end Sys2Proof.Machine
end

