-- ==== Sys2Proof/Machine/Dispatch.lean ====
section
/-! DEFINITION. The one match from an instruction to its meaning. -/

namespace Sys2Proof.Machine

/-- The meaning of an instruction: one arm per row of spec/opcode_table.json. -/
def exec (i : Instr) (s : State) : Host.Outcome State Fault Refusal :=
  match i with
  | .consumeOutputCmd subslot data => Sys2Proof.Machine.execConsumeOutputCmd subslot data s
  | .consumeOutputSig subslot data => Sys2Proof.Machine.execConsumeOutputSig subslot data s
  | .consumeOutputOther sub subslot data => Sys2Proof.Machine.execConsumeOutputOther sub subslot data s
  | .produceInputCmd subslot => Sys2Proof.Machine.execProduceInputCmd subslot s
  | .produceInputSig subslot => Sys2Proof.Machine.execProduceInputSig subslot s
  | .produceInputOther sub subslot => Sys2Proof.Machine.execProduceInputOther sub subslot s
  | .writeParameter sub index data => Sys2Proof.Machine.execWriteParameter sub index data s
  | .readParameter sub index maxLen => Sys2Proof.Machine.execReadParameter sub index maxLen s
  | .codecDecodeCommand data => Sys2Proof.Machine.execCodecDecodeCommand data s
  | .codecEncodeCommand e c p => Sys2Proof.Machine.execCodecEncodeCommand e c p s
  | .codecDecodeStatus data => Sys2Proof.Machine.execCodecDecodeStatus data s
  | .codecEncodeStatus o b e st => Sys2Proof.Machine.execCodecEncodeStatus o b e st s
  | .reservedOp op => Sys2Proof.Machine.execReservedOp op s
  | .reservedHeaderBits reserved op => Sys2Proof.Machine.execReservedHeaderBits reserved op s
  | .cmdregArm c p => Sys2Proof.Machine.execCmdregArm c p s
  | .cmdregReleaseFire c p => Sys2Proof.Machine.execCmdregReleaseFire c p s
  | .cmdregReleaseIdle c p => Sys2Proof.Machine.execCmdregReleaseIdle c p s
  | .dispatchNop p => Sys2Proof.Machine.execDispatchNop p s
  | .dispatchLocal c p => Sys2Proof.Machine.execDispatchLocal c p s
  | .dispatchReboot p => Sys2Proof.Machine.execDispatchReboot p s
  | .dispatchPing p => Sys2Proof.Machine.execDispatchPing p s
  | .dispatchForward c p => Sys2Proof.Machine.execDispatchForward c p s

end Sys2Proof.Machine
end

