-- ==== Sys2Proof/Machine/Port.lean ====
section
/-! DEFINITION. The host request port (spec/45_entry_points.md R230, R233, R246; spec/20_memory.md R76): what becomes of a
presented request, and how a table word is presented. -/

namespace Sys2Proof.Machine

/-- A request presented while `S.fatal` = 1 has no step and gets no response (R246; log 6). -/
def notAccepted (s : State) : State := beginRequest s

/-- The step of an accepted request: the header check and the op's rule (R230, R233). -/
def runRequest (r : Req) (s : State) : Host.Outcome State Fault Refusal :=
  match decode s.cfg s.pending (.req r) with
  | .rejected e => .refused (.unrepresentableRequest e)
  | .ok i => exec i (beginRequest s)

/-- A request at the port: refused while another is in progress (R76), not accepted while fatal (R246), run otherwise. -/
def presentRequest (r : Req) (s : State) : Host.Outcome State Fault Refusal :=
  if s.outstanding.isSome then .refused .overlappingRequest
  else if s.fatal then .next (notAccepted s)
  else runRequest r s

/-- The next event from outside; with none, the port waits and nothing changes (log 3). -/
def takeEvent (s : State) : Host.Outcome State Fault Refusal :=
  match s.inputs with
  | [] => .next s
  | .reset :: rest => .next (resetEvent { s with inputs := rest })
  | .request r :: rest => presentRequest r { s with inputs := rest }

/-- The port with a request presented ahead of all others. -/
def presentNext (r : Req) (s : State) : State := { s with inputs := .request r :: s.inputs }

end Sys2Proof.Machine
end

