-- ==== Sys2Proof/Machine/Step.lean ====
section
/-! DEFINITION. One step of the machine: one event at the host request port (spec/45_entry_points.md R230), under a
well-formed configuration (spec/00_scope.md R8). -/

namespace Sys2Proof.Machine

/-- One step. An ill-formed configuration has no meaning (R8). -/
def step (s : State) : Host.Outcome State Fault Refusal :=
  if s.cfg.wf then takeEvent s else .refused .illFormedConfiguration

/-- The state in which the host presents, as its next request, the request of a table word (log 4, log 16). -/
def State.withFetchWord (s : State) (nbits w : Nat) : State := presentNext (tableRequest nbits w) s

end Sys2Proof.Machine
end

