-- ==== Sys2Proof/Machine/Pseudo.lean ====
section
/-! DEFINITION. The pseudo-instructions of spec/30_encoding.md R99, as the requests they expand to. -/

namespace Sys2Proof.Pseudo

/-- `ARM c, p` (R99). -/
def arm (cfg : Cfg) (c : BitVec 8) (p : BitVec 23) : Req := consumeReq cfg.cmdSub 0 (encodeCommand ⟨true, c, p⟩)

/-- `RELEASE` (R99). -/
def release (cfg : Cfg) : Req := consumeReq cfg.cmdSub 0 [0x00, 0x00, 0x00, 0x00]

/-- `EXEC c, p`: `ARM c, p` then `RELEASE` (R99). -/
def execute (cfg : Cfg) (c : BitVec 8) (p : BitVec 23) : List Req := [arm cfg c p, release cfg]

/-- `STATUS` (R99). -/
def status (cfg : Cfg) : Req := produceReq cfg.cmdSub 0

/-- `SETGAIN g` (R99). -/
def setGain (cfg : Cfg) (g : Word) : Req := writeReq cfg.gainKey.1 cfg.gainKey.2 (be32bytes g)

/-- `GETGAIN` (R99). -/
def getGain (cfg : Cfg) : Req := readReq cfg.gainKey.1 cfg.gainKey.2 4

/-- `SIGOUT i, f` (R99). -/
def sigOut (cfg : Cfg) (i f : Word) : Req := consumeReq cfg.sigSub 0 (be32bytes i ++ be32bytes f)

/-- `SIGIN` (R99). -/
def sigIn (cfg : Cfg) : Req := produceReq cfg.sigSub 0

end Sys2Proof.Pseudo
end

