-- ==== Sys2Proof/Safety.lean ====
section
/-! DEFINITION. The terms claims are stated in: when a request is accepted, which elements of `S` a change leaves alone, which
event writes a parameter entry, what R8 asks of a configuration, and the invariant of the machine. -/

namespace Sys2Proof.Machine

/-- The port accepts a request: not fatal (R246), and no request in progress (R76). -/
def State.accepting (s : State) : Prop := s.fatal = false ∧ s.outstanding = none

/-- The request `r` is presented to a port that accepts it, in a configuration with a meaning, and the port can carry it. -/
structure Presented (s : State) (r : Req) (rest : List PortEvent) : Prop where
  cfg_wf : s.cfg.wf = true
  accepting : s.accepting
  presented : s.inputs = .request r :: rest
  representable : unrepresentable s.cfg r = none

/-- The elements of ExecutionState (R20, R163) are the same. -/
structure SameExecution (s t : State) : Prop where
  pending : t.pending = s.pending
  latchedCommand : t.latchedCommand = s.latchedCommand
  latchedParameter : t.latchedParameter = s.latchedParameter
  status : t.status = s.status
  statusIsFresh : t.statusIsFresh = s.statusIsFresh

/-- The stored buffers are the same: the parameter entries with their unwritten marks, and the signal buffers. -/
structure SameStorage (s t : State) : Prop where
  params : t.params = s.params
  sigOutput : t.sigOutput = s.sigOutput
  sigInput : t.sigInput = s.sigInput

/-- Every element of the spec's record `S` (R20) is the same. -/
structure SameArch (s t : State) : Prop where
  execution : SameExecution s t
  storage : SameStorage s t
  backendUp : t.backendUp = s.backendUp
  fatal : t.fatal = s.fatal

/-- The event is a request that successfully writes parameter entry `k` (R181). -/
def WritesEntry (c : Cfg) (k : Nat) (e : PortEvent) : Prop :=
  ∃ r sub index data, e = .request r ∧ decode c false (.req r) = .ok (.writeParameter sub index data) ∧
    lookup c sub index = some k ∧ data.length = expectedLength c k

/-- Both requests agree on the argument fields that op `op` names (the table of R89). -/
def AgreeOnNamed (op : Nat) (r r' : Req) : Prop :=
  match op with
  | 0 => r.submoduleId = r'.submoduleId ∧ r.subslot = r'.subslot ∧ r.len = r'.len ∧ r.data = r'.data
  | 1 => r.submoduleId = r'.submoduleId ∧ r.subslot = r'.subslot
  | 2 => r.submoduleId = r'.submoduleId ∧ r.index = r'.index ∧ r.len = r'.len ∧ r.data = r'.data
  | 3 => r.submoduleId = r'.submoduleId ∧ r.index = r'.index ∧ r.maxLen = r'.maxLen
  | 4 => r.len = r'.len ∧ r.data = r'.data
  | 5 => r.aBit1 = r'.aBit1 ∧ r.aCode8 = r'.aCode8 ∧ r.aVal23 = r'.aVal23
  | 6 => r.len = r'.len ∧ r.data = r'.data
  | 7 => r.aBit1 = r'.aBit1 ∧ r.aBit2 = r'.aBit2 ∧ r.aCode8 = r'.aCode8 ∧ r.aVal22 = r'.aVal22
  | _ => True

/-- The seven conditions of R8, as the rule words them. -/
structure WellFormedCfg (c : Cfg) : Prop where
  builtins : c.cmdNop ≠ c.cmdReboot ∧ c.cmdNop ≠ c.cmdPing ∧ c.cmdReboot ≠ c.cmdPing
  locals : ∀ code ∈ c.localUndefinedCodes, code ≠ c.cmdNop ∧ code ≠ c.cmdReboot ∧ code ≠ c.cmdPing
  submodules : c.cmdSub ≠ c.sigSub
  three : c.descriptors.length = 3
  keys : (c.descriptors.map Descriptor.key).Nodup
  lengths : ∀ d ∈ c.descriptors, 1 ≤ d.expectedLengthBytes ∧ d.expectedLengthBytes ≤ 65535
  gain : ∃ d ∈ c.descriptors, d.key = c.gainKey ∧ d.expectedLengthBytes = 4

/-- The values of R7's table have their widths. -/
structure CfgWidths (c : Cfg) : Prop where
  cmdSub : c.cmdSub < 2 ^ c.submoduleIdW
  sigSub : c.sigSub < 2 ^ c.submoduleIdW
  keys : ∀ d ∈ c.descriptors, d.submoduleId < 2 ^ c.submoduleIdW ∧ d.index < 2 ^ c.indexW

/-- The invariant of the machine between requests. -/
structure Inv (s : State) : Prop where
  /-- the stored buffers have their lengths (R20, R27) -/
  memory : Memory.wf s = true
  /-- a computed status has operational = 1 (R33) -/
  operational : s.statusIsFresh = true → s.status.operational = true
  /-- a computed status is busy exactly while a command is armed (R22, R33) -/
  busyIsPending : s.statusIsFresh = true → s.status.busy = s.pending
  /-- an armed latch comes from a completed evaluation (R26, R135) -/
  pendingIsFresh : s.pending = true → s.statusIsFresh = true
  /-- Fatal is raised by a fire, which commits nothing else (R263) -/
  fatalIsPending : s.fatal = true → s.pending = true
  /-- so is a request blocked in a backend call (R162) -/
  blockedIsPending : s.outstanding.isSome = true → s.pending = true
  /-- a request that raised Fatal is not in progress (R263) -/
  notBoth : s.fatal = true → s.outstanding = none
  /-- the backend is down only if it was down from reset (R161) -/
  downFromReset : s.backendUp = false → s.cfg.backendUpAtReset = false
  /-- no dispatch result is left over between requests (R133) -/
  noResult : s.dispatchResult = none
  /-- at most two backend calls per request (R160) -/
  calls : s.backendCalls.length ≤ 2
  /-- a response that is not OK carries nothing but its code (R232) -/
  errorsAreBare : ∀ r, s.response = some r → r.code ≠ .ok → r = bareResp r.code
  /-- `rlen` is the number of bytes carried: it fits 16 bits (R91) -/
  rlenFits : ∀ r, s.response = some r → r.rlen.toNat = r.rdata.length

end Sys2Proof.Machine
end

