-- ==== Sys2Proof/Certificates/Slice0/Obligations.lean ====
section
/-! DEFINITION. The statements for the provers. Each docstring names the rule or the section of spec/ it formalises; where one
rests on a choice of the model, it names the log entry. -/

open Sys2Proof Sys2Proof.Machine

/-! ### Encoding -/

/-- Decode and encode agree on all 22 rows, in all three formats (R81, R88 to R90, R93). -/
def Obligations.EncodeThenDecodeGivesBackTheInstruction : Prop :=
  ∀ (c : Cfg) (i : Instr) (pending : Bool), c.wf = true → i.wf c = true → i.selectedAt pending = true →
    decode c pending (encode c i) = .ok i

/-- Words written out from R81, R88, R90 and TESTCFG (D42): the header words, three images of the command register (V34, V32,
V36), and latched commands. -/
def Obligations.WordsDecodeToTheirRows : Prop :=
  decodeTableWord 32 0x00000003 = some (.readParameter 0 0 0) ∧
  decodeTableWord 32 0x00000005 = some (.codecEncodeCommand false 0 0) ∧
  decodeTableWord 32 0x00000007 = some (.codecEncodeStatus false false 0 0) ∧
  decodeTableWord 32 0x0000000F = some (.reservedOp 7) ∧
  decodeTableWord 32 0x80000001 = some (.reservedHeaderBits 0x8000000 1) ∧
  decode Config.testCfg true (.cmdreg [0x95, 0x12, 0x34, 0x56]) = .ok (.cmdregArm 0x2A 0x123456) ∧
  decode Config.testCfg false (.cmdreg [0x7F, 0xFF, 0xFF, 0xFF]) = .ok (.cmdregReleaseIdle 0xFF 0x7FFFFF) ∧
  decode Config.testCfg true (.cmdreg [0x7F, 0xFF, 0xFF, 0xFF]) = .ok (.cmdregReleaseFire 0xFF 0x7FFFFF) ∧
  decode Config.testCfg true (.latched 0x00000000) = .ok (.dispatchNop 0) ∧
  decode Config.testCfg true (.latched 0x00800055) = .ok (.dispatchReboot 0x55) ∧
  decode Config.testCfg true (.latched 0x01000005) = .ok (.dispatchPing 5) ∧
  decode Config.testCfg true (.latched 0x15123456) = .ok (.dispatchForward 0x2A 0x123456)

/-- R115, the four round-trip laws of the codec. -/
def Obligations.CodecRoundTrips : Prop :=
  (∀ b : Bytes, b.length = 4 → ∃ r, decodeCommand b = some r ∧ encodeCommand r = b) ∧
  (∀ r : CommandReg, decodeCommand (encodeCommand r) = some r) ∧
  (∀ b : Bytes, b.length = 4 → ∃ s, decodeStatus b = some s ∧ encodeStatus s = b) ∧
  (∀ s : StatusReg, decodeStatus (encodeStatus s) = some s)

/-- R82 and R84: the wire images, bit by bit. -/
def Obligations.WireImagesBitByBit : Prop :=
  (∀ (e : Bool) (c : BitVec 8) (p : BitVec 23),
    encodeCommand ⟨e, c, p⟩ =
      [BitVec.ofBool e ++ c.extractLsb' 1 7, c.extractLsb' 0 1 ++ p.extractLsb' 16 7, p.extractLsb' 8 8,
        p.extractLsb' 0 8]) ∧
  (∀ (o b : Bool) (e : BitVec 8) (st : BitVec 22),
    encodeStatus ⟨o, b, e, st⟩ =
      [BitVec.ofBool o ++ BitVec.ofBool b ++ e.extractLsb' 2 6,
        e.extractLsb' 1 1 ++ e.extractLsb' 0 1 ++ st.extractLsb' 16 6, st.extractLsb' 8 8, st.extractLsb' 0 8])

/-- R243 and R233: a reserved op, or a nonzero reserved header bit, is answered `ILLEGAL_OP` with no other effect.
That the step takes the request from the list is the model's choice (log 3), and so are the output fields (log 5). -/
def Obligations.ReservedHeadersAreIllegalOps : Prop :=
  (∀ (op : BitVec 3) (s : State), exec (.reservedOp op) s =
    .next { s with response := some ⟨.illegalOp, [], false, false, false, 0, 0, 0⟩ }) ∧
  (∀ (reserved : BitVec 28) (op : BitVec 4) (s : State), exec (.reservedHeaderBits reserved op) s =
    .next { s with response := some ⟨.illegalOp, [], false, false, false, 0, 0, 0⟩ }) ∧
  (∀ (s : State) (r : Req) (rest : List PortEvent), Presented s r rest →
    headerReserved r.header ≠ 0 ∨ 8 ≤ (headerOp r.header).toNat →
      step s = .next { s with
        inputs := rest, response := some ⟨.illegalOp, [], false, false, false, 0, 0, 0⟩, backendCalls := [] })

/-- R234: ops 0x0 and 0x1 route by submodule id, whatever the length. -/
def Obligations.CyclicRequestsRouteBySubmodule : Prop :=
  ∀ (c : Cfg) (r : Req) (pending : Bool), c.wf = true → unrepresentable c r = none → headerReserved r.header = 0 →
    (headerOp r.header = 0 →
      (r.submoduleId = c.cmdSub → decode c pending (.req r) = .ok (.consumeOutputCmd r.subslot r.data)) ∧
      (r.submoduleId = c.sigSub → decode c pending (.req r) = .ok (.consumeOutputSig r.subslot r.data)) ∧
      (r.submoduleId ≠ c.cmdSub → r.submoduleId ≠ c.sigSub →
        decode c pending (.req r) = .ok (.consumeOutputOther r.submoduleId r.subslot r.data))) ∧
    (headerOp r.header = 1 →
      (r.submoduleId = c.cmdSub → decode c pending (.req r) = .ok (.produceInputCmd r.subslot)) ∧
      (r.submoduleId = c.sigSub → decode c pending (.req r) = .ok (.produceInputSig r.subslot)) ∧
      (r.submoduleId ≠ c.cmdSub → r.submoduleId ≠ c.sigSub →
        decode c pending (.req r) = .ok (.produceInputOther r.submoduleId r.subslot)))

/-- R89: fields an op does not name are ignored and may hold any value. -/
def Obligations.UnnamedFieldsAreIgnored : Prop :=
  ∀ (c : Cfg) (pending : Bool) (r r' : Req), unrepresentable c r = none → unrepresentable c r' = none →
    r.header = r'.header → AgreeOnNamed (headerOp r.header).toNat r r' →
      decode c pending (.req r) = decode c pending (.req r')

/-- D29 and R89: a request whose data is not `len` bytes, or whose identifiers are wider than their fields, is refused by
name. -/
def Obligations.UnrepresentableRequestsAreRefused : Prop :=
  ∀ (s : State) (r : Req) (rest : List PortEvent), s.cfg.wf = true → s.accepting → s.inputs = .request r :: rest →
    ((∃ e, step s = .refused (.unrepresentableRequest e)) ↔
      ¬ (r.data.length = r.len.toNat ∧ r.submoduleId < 2 ^ s.cfg.submoduleIdW ∧ r.subslot < 2 ^ s.cfg.subslotW ∧
        r.index < 2 ^ s.cfg.indexW))

/-! ### The host request port, reset and configuration -/

/-- R230: the step of a presented request is its decoded instruction, with the outputs of the step before gone (log 5). -/
def Obligations.StepRunsTheDecodedRequest : Prop :=
  ∀ (s : State) (r : Req) (rest : List PortEvent) (i : Instr), Presented s r rest →
    decode s.cfg s.pending (.req r) = .ok i →
      step s = exec i { s with inputs := rest, response := none, backendCalls := [] }

/-- R91, R162, R263: an accepted request completes with exactly one response, or raises Fatal with none, or is blocked in a
backend call with none. The step takes one request from the host and never changes the configuration. -/
def Obligations.AcceptedRequestIsAnsweredOrStopsThePort : Prop :=
  ∀ (s : State) (r : Req) (rest : List PortEvent), Presented s r rest →
    ∃ t, step s = .next t ∧ t.inputs = rest ∧ t.cfg = s.cfg ∧
      (((∃ x, t.response = some x) ∧ t.accepting) ∨
        (t.response = none ∧ t.fatalOut = true ∧ t.outstanding = none) ∨
        (t.response = none ∧ t.fatalOut = false ∧ ∃ call, t.outstanding = some call))

/-- R246: while fatal, a presented request changes nothing and gets no response. That the model's step then takes the
request from the host is the model's choice (log 6). -/
def Obligations.FatalPortAcceptsNoRequest : Prop :=
  ∀ (s : State) (r : Req) (rest : List PortEvent), s.cfg.wf = true → s.fatal = true → s.outstanding = none →
    s.inputs = .request r :: rest →
      step s = .next { s with inputs := rest, response := none, backendCalls := [] }

/-- R76, R301, ID15: a request presented while another is in progress has no meaning. -/
def Obligations.OverlappingRequestIsRefused : Prop :=
  ∀ (s : State) (r : Req) (rest : List PortEvent) (call : BackendCall), s.cfg.wf = true →
    s.outstanding = some call → s.inputs = .request r :: rest → step s = .refused .overlappingRequest

/-- R290, R293, R294: what a reset leaves, from any state, a fatal one and one blocked in a backend call included. It says
nothing of the latch, the status and `sig_input`, which R37 leaves unwritten.
The first values are R37's and R292's. That the events still to come stay is the model's choice (log 26), and so are the
output fields it clears (log 5). -/
def Obligations.ResetRestoresTheInitialMode : Prop :=
  ∀ (s : State) (rest : List PortEvent), s.cfg.wf = true → s.inputs = .reset :: rest →
    ∃ t, step s = .next t ∧ t.cfg = s.cfg ∧ t.inputs = rest ∧
      t.pending = false ∧ t.statusIsFresh = false ∧ t.fatal = false ∧ t.fatalOut = false ∧
      t.backendUp = s.cfg.backendUpAtReset ∧
      t.params = [none, none, none] ∧ t.sigOutput = none ∧
      t.outstanding = none ∧ t.response = none ∧ t.backendCalls = []

/-- R37 and R292 for every configuration: the state right after reset, and the first status it reports. -/
def Obligations.FirstStatusAfterResetIsReady : Prop :=
  ∀ (c : Cfg) (subslot : Nat),
    (State.resetOf c).pending = false ∧ (State.resetOf c).statusIsFresh = false ∧ (State.resetOf c).fatal = false ∧
    (State.resetOf c).backendUp = c.backendUpAtReset ∧ (State.resetOf c).sigOutput = none ∧
    (∀ k, (State.resetOf c).params.getD k none = none) ∧
    exec (.produceInputCmd subslot) (State.resetOf c) =
      .next { State.resetOf c with
        response := some ⟨.ok, encodeStatus ⟨true, false, c.errUndefined, c.stReady⟩, true, false, false, 0, 0, 0⟩ }

/-- R8: a configuration that breaks one of the seven conditions is refused, and one that meets them (and whose values have
the widths of R7's table, log 17) is not.
Five of the conditions are the spec's own choice (D34). -/
def Obligations.IllFormedConfigurationsAreRefused : Prop :=
  ∀ s : State, (¬ WellFormedCfg s.cfg → step s = .refused .illFormedConfiguration) ∧
    (WellFormedCfg s.cfg → CfgWidths s.cfg → step s ≠ .refused .illFormedConfiguration)

/-! ### The state machine -/

/-- R132: ARM latches and reports BUSY, whatever the prior state; nothing else changes.
That `error` is `ERR_UNDEFINED` is the spec's reading D7 (log 19). -/
def Obligations.ArmLatchesAndReportsBusy : Prop :=
  ∀ (c : BitVec 8) (p : BitVec 23) (s : State),
    exec (.cmdregArm c p) s = .next { s with
      latchedCommand := c, latchedParameter := p, pending := true,
      status := ⟨true, true, s.cfg.errUndefined, s.cfg.stBusy⟩ }

/-- R134: IDLE reports READY; pending and the latch are unchanged.
That `error` is `ERR_UNDEFINED` is the spec's reading D7 (log 19); the effect where pending is 1, which R134 does not give, is
the model's choice (log 15). -/
def Obligations.IdleReportsReady : Prop :=
  ∀ (c : BitVec 8) (p : BitVec 23) (s : State),
    exec (.cmdregReleaseIdle c p) s = .next { s with status := ⟨true, false, s.cfg.errUndefined, s.cfg.stReady⟩ }

/-- R133: FIRE runs the dispatch that the latch decodes to. A returned status is committed whole and the machine goes back
to Idle; a dispatch that returns none (Fatal, or blocked) commits nothing more. The latch keeps its value, and the image's
own fields are not used. -/
def Obligations.FireCommitsTheDispatchedStatus : Prop :=
  ∀ (c : BitVec 8) (p : BitVec 23) (s : State) (i : Instr), decode s.cfg s.pending (.latched (latchWord s)) = .ok i →
    ∃ t, exec i s = .next t ∧ t.latchedCommand = s.latchedCommand ∧ t.latchedParameter = s.latchedParameter ∧
      (∀ st, t.dispatchResult = some st →
        exec (.cmdregReleaseFire c p) s =
          .next { t with status := st, pending := false, dispatchResult := none }) ∧
      (t.dispatchResult = none → exec (.cmdregReleaseFire c p) s = .next t)

/-- R130, R131, R135, R235: a command-submodule consume of 4 bytes runs the transition its image selects. A completed
evaluation marks the status fresh and is answered OK; one that raised Fatal or is blocked commits nothing and has no
response. -/
def Obligations.ConsumeEvaluatesItsImage : Prop :=
  ∀ (subslot : Nat) (data : Bytes) (s : State) (i : Instr), s.accepting → data.length = 4 →
    decode s.cfg s.pending (.cmdreg data) = .ok i →
      ∃ t, exec i s = .next t ∧
        (t.accepting → exec (.consumeOutputCmd subslot data) s = .next { t with
          statusIsFresh := true, response := some ⟨.ok, [], false, false, false, 0, 0, 0⟩ }) ∧
        (¬ t.accepting → exec (.consumeOutputCmd subslot data) s = .next t ∧ t.response = none)

/-- R130 to R135, R235: command consumes that need no backend answer, each with its whole effect: an image that arms; a release
with nothing armed; and a release that fires NOP, a local code, PING, or a forwarded code with the backend down (R152, R153,
R155, R157). The fire transition of the same latch completes too. -/
def Obligations.CommandConsumesCompleteWithoutTheBackend : Prop :=
  ∀ (subslot : Nat) (c : BitVec 8) (p : BitVec 23) (s : State), s.cfg.wf = true → s.accepting →
    exec (.consumeOutputCmd subslot (encodeCommand ⟨true, c, p⟩)) s = .next { s with
      latchedCommand := c, latchedParameter := p, pending := true,
      status := ⟨true, true, s.cfg.errUndefined, s.cfg.stBusy⟩, statusIsFresh := true,
      response := some ⟨.ok, [], false, false, false, 0, 0, 0⟩ } ∧
    (s.pending = false → exec (.consumeOutputCmd subslot (encodeCommand ⟨false, c, p⟩)) s = .next { s with
      status := ⟨true, false, s.cfg.errUndefined, s.cfg.stReady⟩, statusIsFresh := true,
      response := some ⟨.ok, [], false, false, false, 0, 0, 0⟩ }) ∧
    (∀ st : StatusReg, s.pending = true →
      ((s.latchedCommand = s.cfg.cmdNop ∨ s.latchedCommand ∈ s.cfg.localUndefinedCodes) ∧
          st = ⟨true, false, s.cfg.errUndefined, s.cfg.stUndefined⟩ ∨
        s.latchedCommand = s.cfg.cmdPing ∧ st = ⟨true, false, s.cfg.errUndefined, s.cfg.stPingReply⟩ ∨
        s.latchedCommand ≠ s.cfg.cmdNop ∧ s.latchedCommand ∉ s.cfg.localUndefinedCodes ∧
          s.latchedCommand ≠ s.cfg.cmdReboot ∧ s.latchedCommand ≠ s.cfg.cmdPing ∧ s.backendUp = false ∧
          st = ⟨true, false, s.cfg.errInternal, s.cfg.stError⟩) →
      exec (.consumeOutputCmd subslot (encodeCommand ⟨false, c, p⟩)) s = .next { s with
        status := st, pending := false, dispatchResult := none, statusIsFresh := true,
        response := some ⟨.ok, [], false, false, false, 0, 0, 0⟩ } ∧
      exec (.cmdregReleaseFire c p) s = .next { s with status := st, pending := false, dispatchResult := none })

/-- R235, R236, R237, R240: wrong lengths and unrecognised submodules, and no state change.
The codes are the spec's decisions D4 and D25 (log 19). -/
def Obligations.UnsupportedConsumesAndNoInput : Prop :=
  (∀ (subslot : Nat) (data : Bytes) (s : State), data.length ≠ 4 → exec (.consumeOutputCmd subslot data) s =
    .next { s with response := some ⟨.unsupported, [], false, false, false, 0, 0, 0⟩ }) ∧
  (∀ (subslot : Nat) (data : Bytes) (s : State), data.length ≠ 8 → exec (.consumeOutputSig subslot data) s =
    .next { s with response := some ⟨.unsupported, [], false, false, false, 0, 0, 0⟩ }) ∧
  (∀ (sub subslot : Nat) (data : Bytes) (s : State), exec (.consumeOutputOther sub subslot data) s =
    .next { s with response := some ⟨.unsupported, [], false, false, false, 0, 0, 0⟩ }) ∧
  (∀ (sub subslot : Nat) (s : State), exec (.produceInputOther sub subslot) s =
    .next { s with response := some ⟨.none, [], false, false, false, 0, 0, 0⟩ })

/-- R137: the fields of an image with execute = 0 have no effect on any state or result. -/
def Obligations.ReleaseImageFieldsHaveNoEffect : Prop :=
  (∀ (subslot : Nat) (c c' : BitVec 8) (p p' : BitVec 23) (s : State),
    exec (.consumeOutputCmd subslot (encodeCommand ⟨false, c, p⟩)) s =
      exec (.consumeOutputCmd subslot (encodeCommand ⟨false, c', p'⟩)) s) ∧
  (∀ (subslot : Nat) (s : State),
    exec (.consumeOutputCmd subslot [0x00, 0x00, 0x00, 0x00]) s =
      exec (.consumeOutputCmd subslot [0x7F, 0xFF, 0xFF, 0xFF]) s)

/-- R136: after any number of asserted images and one release, exactly one dispatch has run, with the last image's command
and parameter, and no asserted image caused one. The images are presented one a step. -/
def Obligations.LastAssertedImageIsTheOneThatFires : Prop :=
  ∀ (s : State) (earlier : List (BitVec 8 × BitVec 23)) (c : BitVec 8) (p : BitVec 23) (rest : List PortEvent),
    s.cfg.wf = true → s.accepting →
    s.inputs = (earlier ++ [(c, p)]).map (fun x => .request (Pseudo.arm s.cfg x.1 x.2)) ++
      .request (Pseudo.release s.cfg) :: rest →
    ∃ u t, Host.Core.run core (earlier.length + 1) s = .next u ∧
      u.backendUp = s.backendUp ∧ u.executeAnswers = s.executeAnswers ∧ u.initAnswers = s.initAnswers ∧
      u.shutdownAnswers = s.shutdownAnswers ∧ u.draws = s.draws ∧ u.backendCalls = [] ∧
      u.latchedCommand = c ∧ u.latchedParameter = p ∧ u.status = ⟨true, true, s.cfg.errUndefined, s.cfg.stBusy⟩ ∧
      exec (dispatchOf s.cfg c p) { u with inputs := rest, response := none } = .next t ∧
      (∀ st, t.dispatchResult = some st → t.accepting →
        Host.Core.run core (earlier.length + 2) s = .next { t with
          status := st, pending := false, dispatchResult := none, statusIsFresh := true,
          response := some ⟨.ok, [], false, false, false, 0, 0, 0⟩ }) ∧
      (¬ t.accepting → Host.Core.run core (earlier.length + 2) s = .next t)

/-! ### The dispatcher -/

/-- R150, R93: each command code selects its class, whatever the order of the tests. -/
def Obligations.CommandCodesSelectTheirClass : Prop :=
  ∀ (c : Cfg) (pending : Bool) (code : BitVec 8) (p : BitVec 23), c.wf = true →
    (code = c.cmdNop → decode c pending (.latched (latchedWord code p)) = .ok (.dispatchNop p)) ∧
    (code ∈ c.localUndefinedCodes → decode c pending (.latched (latchedWord code p)) = .ok (.dispatchLocal code p)) ∧
    (code = c.cmdReboot → decode c pending (.latched (latchedWord code p)) = .ok (.dispatchReboot p)) ∧
    (code = c.cmdPing → decode c pending (.latched (latchedWord code p)) = .ok (.dispatchPing p)) ∧
    (code ≠ c.cmdNop → code ∉ c.localUndefinedCodes → code ≠ c.cmdReboot → code ≠ c.cmdPing →
      decode c pending (.latched (latchedWord code p)) = .ok (.dispatchForward code p))

/-- R152, R153, R155: NOP, LOCAL and PING return their fixed statuses and do nothing else, whatever the code and the
parameter, and whether the backend is up or down. -/
def Obligations.BuiltinsReturnTheirFixedStatuses : Prop :=
  ∀ (c : BitVec 8) (p : BitVec 23) (s : State),
    exec (.dispatchNop p) s =
      .next { s with dispatchResult := some ⟨true, false, s.cfg.errUndefined, s.cfg.stUndefined⟩ } ∧
    exec (.dispatchLocal c p) s =
      .next { s with dispatchResult := some ⟨true, false, s.cfg.errUndefined, s.cfg.stUndefined⟩ } ∧
    exec (.dispatchPing p) s =
      .next { s with dispatchResult := some ⟨true, false, s.cfg.errUndefined, s.cfg.stPingReply⟩ }

/-- R154, R162, R263: REBOOT for each answer the backend is about to give. It calls shutdown always, then initialize; success
brings the backend up and returns BOOTING; failure raises Fatal, and nothing else of `S` is written; a call that does not
return leaves the request in progress. -/
def Obligations.RebootFollowsTheBackendsAnswers : Prop :=
  ∀ (p : BitVec 23) (s : State) (sa : List ShutdownAnswer) (ia : List InitAnswer),
    (s.shutdownAnswers = .done :: sa → s.initAnswers = .ok :: ia →
      exec (.dispatchReboot p) s = .next { s with
        shutdownAnswers := sa, initAnswers := ia, backendCalls := s.backendCalls ++ [.shutdown, .initBackend],
        backendUp := true, dispatchResult := some ⟨true, false, s.cfg.errUndefined, s.cfg.stBooting⟩ }) ∧
    (s.shutdownAnswers = .done :: sa → s.initAnswers = .fail :: ia →
      exec (.dispatchReboot p) s = .next { s with
        shutdownAnswers := sa, initAnswers := ia, backendCalls := s.backendCalls ++ [.shutdown, .initBackend],
        fatal := true, dispatchResult := none, response := none }) ∧
    (s.shutdownAnswers = .done :: sa → s.initAnswers = .never :: ia →
      exec (.dispatchReboot p) s = .next { s with
        shutdownAnswers := sa, initAnswers := ia, backendCalls := s.backendCalls ++ [.shutdown, .initBackend],
        outstanding := some .initBackend, dispatchResult := none, response := none }) ∧
    (s.shutdownAnswers = .never :: sa →
      exec (.dispatchReboot p) s = .next { s with
        shutdownAnswers := sa, backendCalls := s.backendCalls ++ [.shutdown],
        outstanding := some .shutdown, dispatchResult := none, response := none })

/-- R154, R160, R162: REBOOT in every state, whatever the backend answers. -/
def Obligations.RebootHasFourOutcomes : Prop :=
  ∀ (p : BitVec 23) (s : State),
    ∃ t, exec (.dispatchReboot p) s = .next t ∧ SameExecution s t ∧ SameStorage s t ∧ t.cfg = s.cfg ∧
      t.inputs = s.inputs ∧ t.executeAnswers = s.executeAnswers ∧
      ((t.backendCalls = s.backendCalls ++ [.shutdown, .initBackend] ∧ t.backendUp = true ∧ t.fatal = s.fatal ∧
          t.outstanding = s.outstanding ∧ t.response = s.response ∧
          t.dispatchResult = some ⟨true, false, s.cfg.errUndefined, s.cfg.stBooting⟩) ∨
        (t.backendCalls = s.backendCalls ++ [.shutdown, .initBackend] ∧ t.backendUp = s.backendUp ∧ t.fatal = true ∧
          t.outstanding = s.outstanding ∧ t.response = none ∧ t.dispatchResult = none) ∨
        (t.backendCalls = s.backendCalls ++ [.shutdown, .initBackend] ∧ t.backendUp = s.backendUp ∧
          t.fatal = s.fatal ∧ t.outstanding = some .initBackend ∧ t.response = none ∧ t.dispatchResult = none) ∨
        (t.backendCalls = s.backendCalls ++ [.shutdown] ∧ t.backendUp = s.backendUp ∧
          t.fatal = s.fatal ∧ t.outstanding = some .shutdown ∧ t.response = none ∧ t.dispatchResult = none))

/-- R156, R158, R159, R162: FORWARD with the backend up. The command goes to the backend verbatim; a status code of less than
2^22 passes through; a wider one is truncated or malformed as `WIDE_STATUS_POLICY` says; a malformed reply is INTERNAL/ERROR. -/
def Obligations.ForwardPassesCommandAndReplyThrough : Prop :=
  ∀ (c : BitVec 8) (p : BitVec 23) (s : State) (a : ExecuteAnswer) (ea : List ExecuteAnswer), s.backendUp = true →
    s.executeAnswers = a :: ea →
    (∀ st, (a = .malformed ∧ st = ⟨true, false, s.cfg.errInternal, s.cfg.stError⟩ ∨
          (∃ e code, a = .pair e code ∧ code.toNat < 2 ^ 22 ∧ st = ⟨true, false, e, BitVec.ofNat 22 code.toNat⟩) ∨
          (∃ e code, a = .pair e code ∧ 2 ^ 22 ≤ code.toNat ∧ s.cfg.wideStatusPolicy = .truncate ∧
            st = ⟨true, false, e, BitVec.ofNat 22 (code.toNat % 2 ^ 22)⟩) ∨
          (∃ e code, a = .pair e code ∧ 2 ^ 22 ≤ code.toNat ∧ s.cfg.wideStatusPolicy = .malformed ∧
            st = ⟨true, false, s.cfg.errInternal, s.cfg.stError⟩)) →
      exec (.dispatchForward c p) s = .next { s with
        executeAnswers := ea, backendCalls := s.backendCalls ++ [.execute c p], dispatchResult := some st }) ∧
    (a = .never → exec (.dispatchForward c p) s = .next { s with
        executeAnswers := ea, backendCalls := s.backendCalls ++ [.execute c p],
        outstanding := some (.execute c p), dispatchResult := none, response := none })

/-- R157: FORWARD with the backend down returns INTERNAL/ERROR, whatever the code and the parameter, and does not call it.
That operational is 1 and busy 0 is the spec's choice D8 (log 19); `dispatchResult` is the model's field (log 14). -/
def Obligations.ForwardWithBackendDownIsInternalError : Prop :=
  ∀ (c : BitVec 8) (p : BitVec 23) (s : State), s.backendUp = false →
    exec (.dispatchForward c p) s =
      .next { s with dispatchResult := some ⟨true, false, s.cfg.errInternal, s.cfg.stError⟩ }

/-- R151: every status a dispatch returns has operational = 1 and busy = 0.
For all but a well-formed forwarded reply this is the spec's choice D8 (log 19); `dispatchResult` is the model's field
(log 14). -/
def Obligations.DispatchResultsAreOperationalAndNotBusy : Prop :=
  ∀ (i : Instr) (s t : State) (st : StatusReg), i.format = .latched → s.dispatchResult = none → exec i s = .next t →
    t.dispatchResult = some st → st.operational = true ∧ st.busy = false

/-- R163: a dispatch completes in every state and writes no ExecutionState element, nor the stored buffers; only REBOOT
writes `backend_up` or `fatal`. -/
def Obligations.DispatchLeavesExecutionStateAlone : Prop :=
  ∀ (i : Instr) (s : State), i.format = .latched →
    ∃ t, exec i s = .next t ∧ SameExecution s t ∧ SameStorage s t ∧ t.cfg = s.cfg ∧ t.inputs = s.inputs ∧
      ((∀ p, i ≠ .dispatchReboot p) → t.backendUp = s.backendUp ∧ t.fatal = s.fatal ∧
        t.shutdownAnswers = s.shutdownAnswers ∧ t.initAnswers = s.initAnswers) ∧
      ((∀ c p, i ≠ .dispatchForward c p) → t.executeAnswers = s.executeAnswers)

/-- R160: a dispatch makes at most two backend calls, `shutdown` and `initialize` only from REBOOT, and `execute` only from
FORWARD with the backend up and with its own command and parameter. -/
def Obligations.BackendIsCalledOnlyAsTheRulesSay : Prop :=
  ∀ (i : Instr) (s t : State), i.format = .latched → exec i s = .next t →
    ∃ calls, t.backendCalls = s.backendCalls ++ calls ∧ calls.length ≤ 2 ∧
      (.shutdown ∈ calls ∨ .initBackend ∈ calls → ∃ p, i = .dispatchReboot p) ∧
      (∀ c p, .execute c p ∈ calls → i = .dispatchForward c p ∧ s.backendUp = true)

/-! ### The parameter store -/

/-- R180, R181: WRITE_PARAMETER. No descriptor with the key is UNKNOWN_PARAMETER; a key with a wrong length is LENGTH_MISMATCH;
else the bytes are stored verbatim in that entry alone. -/
def Obligations.WriteParameterStoresVerbatim : Prop :=
  ∀ (sub index : Nat) (data : Bytes) (s : State), s.cfg.wf = true →
    ((∀ d ∈ s.cfg.descriptors, d.key ≠ (sub, index)) → exec (.writeParameter sub index data) s =
      .next { s with response := some ⟨.unknownParameter, [], false, false, false, 0, 0, 0⟩ }) ∧
    (∀ (k : Nat) (d : Descriptor), s.cfg.descriptors[k]? = some d → d.key = (sub, index) →
      (data.length ≠ d.expectedLengthBytes → exec (.writeParameter sub index data) s =
        .next { s with response := some ⟨.lengthMismatch, [], false, false, false, 0, 0, 0⟩ }) ∧
      (data.length = d.expectedLengthBytes → exec (.writeParameter sub index data) s =
        .next { s with
          params := s.params.set k (some data), response := some ⟨.ok, [], false, false, false, 0, 0, 0⟩ }))

/-- R180, R182: READ_PARAMETER of a written entry gives exactly its bytes, whatever larger size is offered, and changes
nothing; of an unwritten one, as many free bytes as the descriptor says (R27). -/
def Obligations.ReadParameterReturnsTheEntry : Prop :=
  ∀ (sub index : Nat) (maxLen : BitVec 16) (s : State), s.cfg.wf = true →
    ((∀ d ∈ s.cfg.descriptors, d.key ≠ (sub, index)) → exec (.readParameter sub index maxLen) s =
      .next { s with response := some ⟨.unknownParameter, [], false, false, false, 0, 0, 0⟩ }) ∧
    (∀ (k : Nat) (d : Descriptor), s.cfg.descriptors[k]? = some d → d.key = (sub, index) →
      (maxLen.toNat < d.expectedLengthBytes → exec (.readParameter sub index maxLen) s =
        .next { s with response := some ⟨.bufferTooSmall, [], false, false, false, 0, 0, 0⟩ }) ∧
      (∀ b, d.expectedLengthBytes ≤ maxLen.toNat → s.params[k]? = some (some b) →
        exec (.readParameter sub index maxLen) s =
          .next { s with response := some ⟨.ok, b, false, false, false, 0, 0, 0⟩ }) ∧
      (d.expectedLengthBytes ≤ maxLen.toNat → s.params[k]? = some none →
        ∃ b n, b.length = d.expectedLengthBytes ∧ exec (.readParameter sub index maxLen) s =
          .next { s with draws := n, response := some ⟨.ok, b, false, false, false, 0, 0, 0⟩ }))

/-- R185: a failed write leaves every state element unchanged, the unwritten marks included. -/
def Obligations.FailedWriteLeavesStateUnchanged : Prop :=
  ∀ (sub index : Nat) (data : Bytes) (s : State),
    ∃ t x, exec (.writeParameter sub index data) s = .next t ∧ t.response = some x ∧
      (x.code ≠ .ok → t = { s with response := some x })

/-- R184, R186: after a successful write of entry `k`, whatever events follow, if none is a reset or a successful write of
the same entry, a read of its key with room enough returns the bytes written. -/
def Obligations.ReadReturnsTheLastWriteAfterAnyRequests : Prop :=
  ∀ (n : Nat) (s t u : State) (k : Nat) (d : Descriptor) (data : Bytes) (maxLen : BitVec 16),
    Memory.wf s = true → s.cfg.wf = true → s.cfg.descriptors[k]? = some d →
    exec (.writeParameter d.submoduleId d.index data) s = .next t → data.length = d.expectedLengthBytes →
    Host.Core.run core n t = .next u →
    (∀ e ∈ t.inputs.take n, e ≠ .reset ∧ ¬ WritesEntry s.cfg k e) →
    d.expectedLengthBytes ≤ maxLen.toNat →
      exec (.readParameter d.submoduleId d.index maxLen) u =
        .next { u with response := some ⟨.ok, data, false, false, false, 0, 0, 0⟩ }

/-! ### The signal transform -/

/-- R200, R236: a signal output of 8 bytes is stored verbatim, and nothing else changes. -/
def Obligations.SignalOutputIsStoredVerbatim : Prop :=
  ∀ (subslot : Nat) (data : Bytes) (s : State), data.length = 8 →
    exec (.consumeOutputSig subslot data) s =
      .next { s with sigOutput := some data, response := some ⟨.ok, [], false, false, false, 0, 0, 0⟩ }

/-- R201, R208, R239: with the output and the gain written and no NaN, the result is the two products in channel order; it is
the response and the new `sig_input`, and nothing else changes. -/
def Obligations.SignalInputMultipliesBothChannels : Prop :=
  ∀ (subslot : Nat) (s : State) (k : Nat) (d : Descriptor) (o0 o1 o2 o3 o4 o5 o6 o7 g0 g1 g2 g3 : Byte) (f : Word),
    s.cfg.wf = true → s.cfg.descriptors[k]? = some d → d.key = s.cfg.gainKey →
    s.sigOutput = some [o0, o1, o2, o3, o4, o5, o6, o7] → s.params[k]? = some (some [g0, g1, g2, g3]) →
    fmul s.cfg.fmulMode (o4 ++ o5 ++ o6 ++ o7) (g0 ++ g1 ++ g2 ++ g3) = some f →
      exec (.produceInputSig subslot) s = .next { s with
        sigInput := be32bytes ((o0 ++ o1 ++ o2 ++ o3) * (g0 ++ g1 ++ g2 ++ g3)) ++ be32bytes f,
        response := some ⟨.ok, be32bytes ((o0 ++ o1 ++ o2 ++ o3) * (g0 ++ g1 ++ g2 ++ g3)) ++ be32bytes f,
          true, false, false, 0, 0, 0⟩ }

/-- R201, R27, R28, R208, R239: a signal input answers 8 bytes in every state, unwritten operands included, and writes only
`sig_input` (and the draw counter, log 9). -/
def Obligations.SignalInputAlwaysAnswersEightBytes : Prop :=
  ∀ (subslot : Nat) (s : State),
    ∃ r n, r.length = 8 ∧ exec (.produceInputSig subslot) s = .next { s with
      sigInput := r, draws := n, response := some ⟨.ok, r, true, false, false, 0, 0, 0⟩ }

/-- R203: the integer channel is the low 32 bits of the product, read as unsigned or as signed, whatever the float channel
gives.
Wrap-around is the spec's decision D11 (log 19); R203 marks the signed reading as general knowledge. -/
def Obligations.IntegerChannelIsTheLowWordOfTheProduct : Prop :=
  ∀ (subslot : Nat) (s : State) (k : Nat) (d : Descriptor) (i f g : Word), s.cfg.wf = true →
    s.cfg.descriptors[k]? = some d → d.key = s.cfg.gainKey → s.params[k]? = some (some (be32bytes g)) →
    s.sigOutput = some (be32bytes i ++ be32bytes f) →
      ∃ t x p, exec (.produceInputSig subslot) s = .next t ∧ t.response = some x ∧ x.code = .ok ∧
        x.rdata.take 4 = be32bytes p ∧ p.toNat = (i.toNat * g.toNat) % 2 ^ 32 ∧
        p.toInt = (i.toInt * g.toInt).bmod (2 ^ 32)

/-- R206: where the float product is a NaN, the float channel is some quiet NaN. -/
def Obligations.NaNProductIsSomeQuietNaN : Prop :=
  ∀ (subslot : Nat) (s : State) (k : Nat) (d : Descriptor) (i f g : Word), s.cfg.wf = true →
    s.cfg.descriptors[k]? = some d → d.key = s.cfg.gainKey → s.params[k]? = some (some (be32bytes g)) →
    s.sigOutput = some (be32bytes i ++ be32bytes f) → fmul s.cfg.fmulMode f g = none →
      ∃ t x w, exec (.produceInputSig subslot) s = .next t ∧ t.response = some x ∧ x.code = .ok ∧
        x.rdata.drop 4 = be32bytes w ∧ w.extractLsb' 22 9 = 0x1FF#9

/-- R71: with the operands written and no NaN, repeating a signal input changes nothing and gives the same answer. -/
def Obligations.RepeatedSignalInputIsIdempotent : Prop :=
  ∀ (subslot : Nat) (s t : State) (k : Nat) (d : Descriptor) (i f g : Word), s.cfg.wf = true →
    s.cfg.descriptors[k]? = some d → d.key = s.cfg.gainKey → s.params[k]? = some (some (be32bytes g)) →
    s.sigOutput = some (be32bytes i ++ be32bytes f) → fmul s.cfg.fmulMode f g ≠ none →
      exec (.produceInputSig subslot) s = .next t → exec (.produceInputSig subslot) t = .next t

/-- R300, R202: a gain write and a signal output are used by the very next signal input. -/
def Obligations.GainAndOutputReachTheNextInput : Prop :=
  ∀ (s : State) (i f g : Word) (rest : List PortEvent), s.cfg.wf = true → s.accepting → Memory.wf s = true →
    s.inputs = .request (Pseudo.setGain s.cfg g) :: .request (Pseudo.sigOut s.cfg i f) ::
      .request (Pseudo.sigIn s.cfg) :: rest →
    ∃ t x, Host.Core.run core 3 s = .next t ∧ t.response = some x ∧ x.code = .ok ∧ x.qualityGood = true ∧
      t.sigInput = x.rdata ∧ x.rdata.take 4 = be32bytes (i * g) ∧
      (∀ w, fmul s.cfg.fmulMode f g = some w → x.rdata.drop 4 = be32bytes w)

/-- R205: the special values of the float product, in both modes. -/
def Obligations.FloatProductSpecialValues : Prop :=
  ∀ (mode : FmulMode) (fb g : Word),
    (isNaN fb = true → fmul mode fb g = none) ∧
    (fb = 0x7F800000 ∨ fb = 0xFF800000 → g = 0 → fmul mode fb g = none) ∧
    (fb = 0x7F800000 ∨ fb = 0xFF800000 → g ≠ 0 → fmul mode fb g = some fb) ∧
    (fb = 0x00000000 ∨ fb = 0x80000000 → fmul mode fb g = some fb) ∧
    (fb.extractLsb' 23 8 ≠ 0xFF#8 → g = 0 → fmul mode fb g = some (fb &&& 0x80000000))

/-- R204: the two rounding modes agree whenever the gain is exactly representable in binary32 (every gain below 2^24 is), and
differ on the rule's own example.
Rounding follows IEEE 754 as the spec takes it from general knowledge (log 20). -/
def Obligations.RoundingModesDifferOnlyOnInexactGains : Prop :=
  (∀ (fb g : Word), (∃ m k, m < 2 ^ 24 ∧ g.toNat = m * 2 ^ k) →
    fmul .convertThenMultiply fb g = fmul .singleRounding fb g) ∧
  fmul .convertThenMultiply 0x40400000 16777217 = some 0x4C400000 ∧
  fmul .singleRounding 0x40400000 16777217 = some 0x4C400001

/-- R209 (its second example, for every pattern that is not a NaN): a gain of 1 returns the float field unchanged. -/
def Obligations.GainOneReturnsTheFloatUnchanged : Prop :=
  ∀ (mode : FmulMode) (fb : Word), isNaN fb = false → fmul mode fb 1 = some fb

/-- R13: the rounding of a quotient by a power of two is to the nearest integer, a tie to the even one. -/
def Obligations.RoundingIsToNearestTiesToEven : Prop :=
  ∀ m d : Nat, 2 * m ≤ 2 * (roundShift m d * 2 ^ d) + 2 ^ d ∧ 2 * (roundShift m d * 2 ^ d) ≤ 2 * m + 2 ^ d ∧
    (2 * m = 2 * (roundShift m d * 2 ^ d) + 2 ^ d ∨ 2 * (roundShift m d * 2 ^ d) = 2 * m + 2 ^ d →
      roundShift m d % 2 = 0)

/-- R13, R87, R205: a rounded value that is neither zero nor past the largest finite magnitude is the pattern of a finite
binary32 datum of that sign, worth exactly the rounded number of units in the last place; past it, it is infinity. -/
def Obligations.RoundedPatternsHaveTheirValue : Prop :=
  ∀ (neg : Bool) (m : Nat) (e : Int), 0 < m →
    ((quantum m e + 149).toNat * 2 ^ 23 + unitsOf m e (quantum m e) < infBits → 0 < unitsOf m e (quantum m e) →
      ∃ n q, f32 (round32 neg m e) = .finite neg n q ∧ quantum m e ≤ q ∧
        n * 2 ^ (q - quantum m e).toNat = unitsOf m e (quantum m e)) ∧
    (infBits ≤ (quantum m e + 149).toNat * 2 ^ 23 + unitsOf m e (quantum m e) →
      f32 (round32 neg m e) = .inf neg) ∧
    (unitsOf m e (quantum m e) = 0 → f32 (round32 neg m e) = .zero neg)

/-! ### Reading status, and the codec ops -/

/-- R238: a command-submodule input is the status, or READY while no evaluation has completed; it changes nothing.
That the default's `error` is `ERR_UNDEFINED` is the spec's decision D7 (log 19). -/
def Obligations.StatusInputReportsTheStatusOrReady : Prop :=
  ∀ (subslot : Nat) (s : State),
    (s.statusIsFresh = true → exec (.produceInputCmd subslot) s = .next { s with
      response := some ⟨.ok, encodeStatus s.status, true, false, false, 0, 0, 0⟩ }) ∧
    (s.statusIsFresh = false → exec (.produceInputCmd subslot) s = .next { s with
      response := some ⟨.ok, encodeStatus ⟨true, false, s.cfg.errUndefined, s.cfg.stReady⟩, true, false, false,
        0, 0, 0⟩ })

/-- R117 to R120: the codec ops answer the fields by plain slicing (R94) or the assembled bytes, reject any length but 4, and
touch no state. -/
def Obligations.CodecOpsSliceAndAssemble : Prop :=
  ∀ s : State,
    (∀ b0 b1 b2 b3 : Byte,
      exec (.codecDecodeCommand [b0, b1, b2, b3]) s = .next { s with
        response := some ⟨.ok, [], false, (b0 ++ b1 ++ b2 ++ b3).getLsbD 31, false,
          (b0 ++ b1 ++ b2 ++ b3).extractLsb' 23 8, (b0 ++ b1 ++ b2 ++ b3).extractLsb' 0 23, 0⟩ } ∧
      exec (.codecDecodeStatus [b0, b1, b2, b3]) s = .next { s with
        response := some ⟨.ok, [], false, (b0 ++ b1 ++ b2 ++ b3).getLsbD 31, (b0 ++ b1 ++ b2 ++ b3).getLsbD 30,
          (b0 ++ b1 ++ b2 ++ b3).extractLsb' 22 8, 0, (b0 ++ b1 ++ b2 ++ b3).extractLsb' 0 22⟩ }) ∧
    (∀ data : Bytes, data.length ≠ 4 →
      exec (.codecDecodeCommand data) s =
        .next { s with response := some ⟨.invalidLength, [], false, false, false, 0, 0, 0⟩ } ∧
      exec (.codecDecodeStatus data) s =
        .next { s with response := some ⟨.invalidLength, [], false, false, false, 0, 0, 0⟩ }) ∧
    (∀ (e : Bool) (c : BitVec 8) (p : BitVec 23), exec (.codecEncodeCommand e c p) s = .next { s with
      response := some ⟨.ok, be32bytes (BitVec.ofBool e ++ c ++ p), false, false, false, 0, 0, 0⟩ }) ∧
    (∀ (o b : Bool) (e : BitVec 8) (st : BitVec 22), exec (.codecEncodeStatus o b e st) s = .next { s with
      response := some ⟨.ok, be32bytes (BitVec.ofBool o ++ BitVec.ofBool b ++ e ++ st), false, false, false,
        0, 0, 0⟩ })

/-- R244: the subslot of ops 0x0 and 0x1 has no effect.
This is the spec's decision D14 (log 19). -/
def Obligations.SubslotHasNoEffect : Prop :=
  ∀ (sub ss ss' : Nat) (data : Bytes) (s : State),
    exec (.consumeOutputCmd ss data) s = exec (.consumeOutputCmd ss' data) s ∧
    exec (.consumeOutputSig ss data) s = exec (.consumeOutputSig ss' data) s ∧
    exec (.consumeOutputOther sub ss data) s = exec (.consumeOutputOther sub ss' data) s ∧
    exec (.produceInputCmd ss) s = exec (.produceInputCmd ss') s ∧
    exec (.produceInputSig ss) s = exec (.produceInputSig ss') s ∧
    exec (.produceInputOther sub ss) s = exec (.produceInputOther sub ss') s

/-! ### The whole machine -/

/-- The invariant holds right after reset, under every configuration; the values of the latch, the status and `sig_input`
at reset (log 11, 12, 13) do not matter to it. -/
def Obligations.ResetMeetsTheInvariant : Prop := ∀ c : Cfg, Inv (State.resetOf c)

/-- Every step keeps the invariant. -/
def Obligations.EveryStepKeepsTheInvariant : Prop := ∀ s t : State, Inv s → step s = .next t → Inv t

/-- R261, R232: a request answered with any code but OK changes no state and calls no backend, and its response carries
nothing but the code. -/
def Obligations.RejectedRequestsChangeNoState : Prop :=
  ∀ (s t : State) (r : Req) (rest : List PortEvent) (x : Resp), Presented s r rest → step s = .next t →
    t.response = some x → x.code ≠ .ok →
      t = { s with inputs := rest, response := some x, backendCalls := [] } ∧
        x = ⟨x.code, [], false, false, false, 0, 0, 0⟩

/-- R245: `quality_good` is 1 in every OK response of PRODUCE_INPUT, and 0 in every other response.
This is the spec's decision D15 (log 19). -/
def Obligations.QualityIsGoodExactlyOnSuccessfulProduce : Prop :=
  ∀ (s t : State) (r : Req) (rest : List PortEvent) (x : Resp), Presented s r rest → step s = .next t →
    t.response = some x →
      (x.qualityGood = true ↔ x.code = .ok ∧ headerReserved r.header = 0 ∧ headerOp r.header = 0x1#4)

/-- R131, R163, R186: only a command-submodule consume of 4 bytes evaluates the state machine; every other request leaves
ExecutionState, `backend_up` and `fatal` alone and calls no backend. -/
def Obligations.OnlyCommandConsumesEvaluateTheStateMachine : Prop :=
  ∀ (s t : State) (r : Req) (rest : List PortEvent) (i : Instr), Presented s r rest →
    decode s.cfg s.pending (.req r) = .ok i → (∀ ss data, i = .consumeOutputCmd ss data → data.length ≠ 4) →
    step s = .next t →
      SameExecution s t ∧ t.backendUp = s.backendUp ∧ t.fatal = s.fatal ∧ t.outstanding = none ∧ t.backendCalls = []

/-- R186, R200, R208: which request writes which stored buffer. -/
def Obligations.StoredBuffersHaveOneWriterEach : Prop :=
  ∀ (s t : State) (r : Req) (rest : List PortEvent) (i : Instr), Presented s r rest →
    decode s.cfg s.pending (.req r) = .ok i → step s = .next t →
      ((∀ sub index data, i ≠ .writeParameter sub index data) → t.params = s.params) ∧
      ((∀ ss data, i ≠ .consumeOutputSig ss data) → t.sigOutput = s.sigOutput) ∧
      ((∀ ss, i ≠ .produceInputSig ss) → t.sigInput = s.sigInput)

/-- R161: `backend_up` changes only at a reset, and at a REBOOT, which sets it to 1. -/
def Obligations.BackendUpChangesOnlyAtResetOrReboot : Prop :=
  ∀ s t : State, step s = .next t → t.backendUp ≠ s.backendUp →
    (∃ rest, s.inputs = .reset :: rest ∧ t.backendUp = s.cfg.backendUpAtReset) ∨
      (t.backendUp = true ∧ s.pending = true ∧
        decode s.cfg s.pending (.latched (latchWord s)) = .ok (.dispatchReboot s.latchedParameter) ∧
        t.backendCalls = [.shutdown, .initBackend])

/-- R263, R31, R268: Fatal is raised only by a fired REBOOT, after shutdown and initialize, with no response and no other
write of `S`; once raised it stays until a reset. -/
def Obligations.FatalComesOnlyFromRebootAndStays : Prop :=
  ∀ s t : State, step s = .next t →
    (s.fatal = false → t.fatal = true →
      s.pending = true ∧
      decode s.cfg s.pending (.latched (latchWord s)) = .ok (.dispatchReboot s.latchedParameter) ∧
      t.backendCalls = [.shutdown, .initBackend] ∧ t.response = none ∧ SameExecution s t ∧ SameStorage s t ∧
      t.backendUp = s.backendUp) ∧
    (s.fatal = true → t.fatal = false → ∃ rest, s.inputs = .reset :: rest)
end

