-- ==== Sys2Proof/Laws/Decode.lean ====
section
/-! SUPPORT. Small lemmas of byte order, the codec's bit fields, the header, and the lookup of a parameter key. -/

namespace Sys2Proof

@[simp] theorem be32_be32bytes (v : Word) : be32 (be32bytes v) = v := by
  apply BitVec.eq_of_getLsbD_eq
  intro i hi
  simp only [be32, be32bytes, List.getD_cons_zero, List.getD_cons_succ, BitVec.getLsbD_append,
    BitVec.getLsbD_extractLsb']
  rcases Nat.lt_or_ge i 8 with h | h
  · simp [h]
  · rcases Nat.lt_or_ge i 16 with h2 | h2
    · simp [show ¬ i < 8 by omega, show i - 8 < 8 by omega, show 8 + (i - 8) = i by omega]
    · rcases Nat.lt_or_ge i 24 with h3 | h3
      · simp [show ¬ i < 8 by omega, show ¬ i - 8 < 8 by omega, show i - 8 - 8 < 8 by omega,
          show 16 + (i - 8 - 8) = i by omega]
      · simp [show ¬ i < 8 by omega, show ¬ i - 8 < 8 by omega, show ¬ i - 8 - 8 < 8 by omega,
          show i - 8 - 8 - 8 < 8 by omega, show 24 + (i - 8 - 8 - 8) = i by omega]

theorem be32_cons (b0 b1 b2 b3 : Byte) (rest : Bytes) :
    be32 (b0 :: b1 :: b2 :: b3 :: rest) = b0 ++ b1 ++ b2 ++ b3 := rfl

theorem be32bytes_append (b0 b1 b2 b3 : Byte) : be32bytes (b0 ++ b1 ++ b2 ++ b3) = [b0, b1, b2, b3] := by
  unfold be32bytes
  have h (k : Nat) (hk : k ≤ 24) (b : Byte)
      (he : ∀ i, i < 8 → (b0 ++ b1 ++ b2 ++ b3).getLsbD (k + i) = b.getLsbD i) :
      (b0 ++ b1 ++ b2 ++ b3).extractLsb' k 8 = b := by
    apply BitVec.eq_of_getLsbD_eq
    intro i hi
    rw [BitVec.getLsbD_extractLsb', he i hi]
    simp [hi]
  rw [h 24 (by omega) b0, h 16 (by omega) b1, h 8 (by omega) b2, h 0 (by omega) b3]
  all_goals
    intro i hi
    simp only [BitVec.getLsbD_append]
  · simp [hi]
  · simp [hi, show ¬ 8 + i < 8 by omega]
  · simp [hi, show ¬ 16 + i < 8 by omega, show 16 + i - 8 - 8 = i by omega, show ¬ 16 + i - 8 < 8 by omega]
  · simp [show ¬ 24 + i < 8 by omega, show ¬ 24 + i - 8 < 8 by omega, show ¬ 24 + i - 8 - 8 < 8 by omega,
      show 24 + i - 8 - 8 - 8 = i by omega]

theorem be32bytes_be32 {b : Bytes} (h : b.length = 4) : be32bytes (be32 b) = b := by
  match b, h with
  | [b0, b1, b2, b3], _ => rw [be32_cons, be32bytes_append]

@[simp] theorem commandFields_commandWord (r : CommandReg) : commandFields (commandWord r) = r := by
  obtain ⟨e, c, p⟩ := r
  simp only [commandFields, commandWord, CommandReg.mk.injEq]
  refine ⟨?_, ?_, ?_⟩
  · simp only [BitVec.getLsbD_append]
    simp
  · apply BitVec.eq_of_getLsbD_eq
    intro i hi
    simp only [BitVec.getLsbD_append, BitVec.getLsbD_extractLsb']
    simp [hi]
  · apply BitVec.eq_of_getLsbD_eq
    intro i hi
    simp only [BitVec.getLsbD_append, BitVec.getLsbD_extractLsb']
    simp [hi]

@[simp] theorem commandWord_commandFields (v : Word) : commandWord (commandFields v) = v := by
  apply BitVec.eq_of_getLsbD_eq
  intro i hi
  simp only [commandFields, commandWord, BitVec.getLsbD_append, BitVec.getLsbD_extractLsb', BitVec.getLsbD_ofBool]
  rcases Nat.lt_or_ge i 23 with h | h
  · simp [h]
  · rcases Nat.lt_or_ge i 31 with h2 | h2
    · simp [show ¬ i < 23 by omega, show i - 23 < 8 by omega, show 23 + (i - 23) = i by omega]
    · obtain rfl : i = 31 := by omega
      simp

@[simp] theorem statusFields_statusWord (s : StatusReg) : statusFields (statusWord s) = s := by
  obtain ⟨o, b, e, st⟩ := s
  simp only [statusFields, statusWord, StatusReg.mk.injEq]
  refine ⟨?_, ?_, ?_, ?_⟩
  · simp only [BitVec.getLsbD_append]
    simp
  · simp only [BitVec.getLsbD_append]
    simp
  · apply BitVec.eq_of_getLsbD_eq
    intro i hi
    simp only [BitVec.getLsbD_append, BitVec.getLsbD_extractLsb']
    simp [hi]
  · apply BitVec.eq_of_getLsbD_eq
    intro i hi
    simp only [BitVec.getLsbD_append, BitVec.getLsbD_extractLsb']
    simp [hi]

@[simp] theorem statusWord_statusFields (v : Word) : statusWord (statusFields v) = v := by
  apply BitVec.eq_of_getLsbD_eq
  intro i hi
  simp only [statusFields, statusWord, BitVec.getLsbD_append, BitVec.getLsbD_extractLsb', BitVec.getLsbD_ofBool]
  rcases Nat.lt_or_ge i 22 with h | h
  · simp [h]
  · rcases Nat.lt_or_ge i 30 with h2 | h2
    · simp [show ¬ i < 22 by omega, show i - 22 < 8 by omega, show 22 + (i - 22) = i by omega]
    · rcases (by omega : i = 30 ∨ i = 31) with rfl | rfl <;> simp

theorem headerOp_headerOf (op : BitVec 4) : headerOp (headerOf op) = op := by revert op; decide

theorem headerReserved_headerOf (op : BitVec 4) : headerReserved (headerOf op) = 0 := by revert op; decide

theorem headerOp_append (reserved : BitVec 28) (op : BitVec 4) : headerOp (reserved ++ op) = op := by
  apply BitVec.eq_of_getLsbD_eq
  intro i hi
  simp only [headerOp, BitVec.getLsbD_extractLsb', BitVec.getLsbD_append]
  simp [hi]

theorem headerReserved_append (reserved : BitVec 28) (op : BitVec 4) :
    headerReserved (reserved ++ op) = reserved := by
  apply BitVec.eq_of_getLsbD_eq
  intro i hi
  simp only [headerReserved, BitVec.getLsbD_extractLsb', BitVec.getLsbD_append]
  simp [hi]

namespace Machine

theorem lookup_none {c : Cfg} {sub index : Nat} :
    lookup c sub index = none ↔ ∀ d ∈ c.descriptors, d.key ≠ (sub, index) := by
  simp only [lookup, List.findIdx?_eq_none_iff, Descriptor.key, ne_eq, Prod.mk.injEq]
  simp

/-- The entry found has the key (R180). -/
theorem lookup_some {c : Cfg} {sub index k : Nat} (h : lookup c sub index = some k) :
    ∃ d, c.descriptors[k]? = some d ∧ d.key = (sub, index) := by
  rw [lookup, List.findIdx?_eq_some_iff_getElem] at h
  obtain ⟨hk, hp, _⟩ := h
  exact ⟨_, List.getElem?_eq_getElem hk, by simpa [Descriptor.key] using hp⟩

/-- With distinct keys, the entry with the key is the one found (R8, R180). -/
theorem lookup_of_key {c : Cfg} {sub index k : Nat} {d : Descriptor} (hn : c.keysDistinct = true)
    (hk : c.descriptors[k]? = some d) (hd : d.key = (sub, index)) : lookup c sub index = some k := by
  simp only [Cfg.keysDistinct, decide_eq_true_eq] at hn
  cases h : lookup c sub index with
  | none => exact absurd hd (lookup_none.1 h d (List.mem_of_getElem? hk))
  | some j =>
    obtain ⟨d', hj, hd'⟩ := lookup_some h
    have hkl := (List.getElem?_eq_some_iff.1 hk)
    have hjl := (List.getElem?_eq_some_iff.1 hj)
    obtain ⟨hk1, hk2⟩ := hkl
    obtain ⟨hj1, hj2⟩ := hjl
    have : j = k := by
      apply (List.Nodup.getElem_inj_iff hn (hi := by simpa using hj1) (hj := by simpa using hk1)).1
      simp [hj2, hk2, hd, hd']
    rw [this]

theorem expectedLength_of {c : Cfg} {k : Nat} {d : Descriptor} (h : c.descriptors[k]? = some d) :
    expectedLength c k = d.expectedLengthBytes := by simp [expectedLength, h]

end Machine

end Sys2Proof
end

