-- ==== Sys2Proof/Laws/State.lean ====
section
/-! SUPPORT. One lemma per field of State per update, true by rfl. -/

namespace Sys2Proof.Machine

variable (s : State)

@[simp] theorem respond_pending (r : Resp) : (respond r s).pending = s.pending := rfl
@[simp] theorem respond_latchedCommand (r : Resp) : (respond r s).latchedCommand = s.latchedCommand := rfl
@[simp] theorem respond_latchedParameter (r : Resp) : (respond r s).latchedParameter = s.latchedParameter := rfl
@[simp] theorem respond_status (r : Resp) : (respond r s).status = s.status := rfl
@[simp] theorem respond_statusIsFresh (r : Resp) : (respond r s).statusIsFresh = s.statusIsFresh := rfl
@[simp] theorem respond_params (r : Resp) : (respond r s).params = s.params := rfl
@[simp] theorem respond_sigOutput (r : Resp) : (respond r s).sigOutput = s.sigOutput := rfl
@[simp] theorem respond_sigInput (r : Resp) : (respond r s).sigInput = s.sigInput := rfl
@[simp] theorem respond_backendUp (r : Resp) : (respond r s).backendUp = s.backendUp := rfl
@[simp] theorem respond_fatal (r : Resp) : (respond r s).fatal = s.fatal := rfl
@[simp] theorem respond_cfg (r : Resp) : (respond r s).cfg = s.cfg := rfl
@[simp] theorem respond_inputs (r : Resp) : (respond r s).inputs = s.inputs := rfl
@[simp] theorem respond_response (r : Resp) : (respond r s).response = some r := rfl
@[simp] theorem respond_backendCalls (r : Resp) : (respond r s).backendCalls = s.backendCalls := rfl
@[simp] theorem respond_outstanding (r : Resp) : (respond r s).outstanding = s.outstanding := rfl
@[simp] theorem respond_dispatchResult (r : Resp) : (respond r s).dispatchResult = s.dispatchResult := rfl
@[simp] theorem respond_shutdownAnswers (r : Resp) : (respond r s).shutdownAnswers = s.shutdownAnswers := rfl
@[simp] theorem respond_initAnswers (r : Resp) : (respond r s).initAnswers = s.initAnswers := rfl
@[simp] theorem respond_executeAnswers (r : Resp) : (respond r s).executeAnswers = s.executeAnswers := rfl
@[simp] theorem respond_draws (r : Resp) : (respond r s).draws = s.draws := rfl

@[simp] theorem reject_pending (code : RespCode) : (reject code s).pending = s.pending := rfl
@[simp] theorem reject_latchedCommand (code : RespCode) : (reject code s).latchedCommand = s.latchedCommand := rfl
@[simp] theorem reject_latchedParameter (code : RespCode) : (reject code s).latchedParameter = s.latchedParameter := rfl
@[simp] theorem reject_status (code : RespCode) : (reject code s).status = s.status := rfl
@[simp] theorem reject_statusIsFresh (code : RespCode) : (reject code s).statusIsFresh = s.statusIsFresh := rfl
@[simp] theorem reject_params (code : RespCode) : (reject code s).params = s.params := rfl
@[simp] theorem reject_sigOutput (code : RespCode) : (reject code s).sigOutput = s.sigOutput := rfl
@[simp] theorem reject_sigInput (code : RespCode) : (reject code s).sigInput = s.sigInput := rfl
@[simp] theorem reject_backendUp (code : RespCode) : (reject code s).backendUp = s.backendUp := rfl
@[simp] theorem reject_fatal (code : RespCode) : (reject code s).fatal = s.fatal := rfl
@[simp] theorem reject_cfg (code : RespCode) : (reject code s).cfg = s.cfg := rfl
@[simp] theorem reject_inputs (code : RespCode) : (reject code s).inputs = s.inputs := rfl
@[simp] theorem reject_response (code : RespCode) : (reject code s).response = some (bareResp code) := rfl
@[simp] theorem reject_backendCalls (code : RespCode) : (reject code s).backendCalls = s.backendCalls := rfl
@[simp] theorem reject_outstanding (code : RespCode) : (reject code s).outstanding = s.outstanding := rfl
@[simp] theorem reject_dispatchResult (code : RespCode) : (reject code s).dispatchResult = s.dispatchResult := rfl
@[simp] theorem reject_shutdownAnswers (code : RespCode) : (reject code s).shutdownAnswers = s.shutdownAnswers := rfl
@[simp] theorem reject_initAnswers (code : RespCode) : (reject code s).initAnswers = s.initAnswers := rfl
@[simp] theorem reject_executeAnswers (code : RespCode) : (reject code s).executeAnswers = s.executeAnswers := rfl
@[simp] theorem reject_draws (code : RespCode) : (reject code s).draws = s.draws := rfl

@[simp] theorem beginRequest_pending : (beginRequest s).pending = s.pending := rfl
@[simp] theorem beginRequest_latchedCommand : (beginRequest s).latchedCommand = s.latchedCommand := rfl
@[simp] theorem beginRequest_latchedParameter : (beginRequest s).latchedParameter = s.latchedParameter := rfl
@[simp] theorem beginRequest_status : (beginRequest s).status = s.status := rfl
@[simp] theorem beginRequest_statusIsFresh : (beginRequest s).statusIsFresh = s.statusIsFresh := rfl
@[simp] theorem beginRequest_params : (beginRequest s).params = s.params := rfl
@[simp] theorem beginRequest_sigOutput : (beginRequest s).sigOutput = s.sigOutput := rfl
@[simp] theorem beginRequest_sigInput : (beginRequest s).sigInput = s.sigInput := rfl
@[simp] theorem beginRequest_backendUp : (beginRequest s).backendUp = s.backendUp := rfl
@[simp] theorem beginRequest_fatal : (beginRequest s).fatal = s.fatal := rfl
@[simp] theorem beginRequest_cfg : (beginRequest s).cfg = s.cfg := rfl
@[simp] theorem beginRequest_inputs : (beginRequest s).inputs = s.inputs := rfl
@[simp] theorem beginRequest_response : (beginRequest s).response = none := rfl
@[simp] theorem beginRequest_backendCalls : (beginRequest s).backendCalls = [] := rfl
@[simp] theorem beginRequest_outstanding : (beginRequest s).outstanding = s.outstanding := rfl
@[simp] theorem beginRequest_dispatchResult : (beginRequest s).dispatchResult = s.dispatchResult := rfl
@[simp] theorem beginRequest_shutdownAnswers : (beginRequest s).shutdownAnswers = s.shutdownAnswers := rfl
@[simp] theorem beginRequest_initAnswers : (beginRequest s).initAnswers = s.initAnswers := rfl
@[simp] theorem beginRequest_executeAnswers : (beginRequest s).executeAnswers = s.executeAnswers := rfl
@[simp] theorem beginRequest_draws : (beginRequest s).draws = s.draws := rfl

@[simp] theorem paramWrite_pending (k : Nat) (b : Bytes) : (paramWrite k b s).pending = s.pending := rfl
@[simp] theorem paramWrite_latchedCommand (k : Nat) (b : Bytes) : (paramWrite k b s).latchedCommand = s.latchedCommand := rfl
@[simp] theorem paramWrite_latchedParameter (k : Nat) (b : Bytes) : (paramWrite k b s).latchedParameter = s.latchedParameter := rfl
@[simp] theorem paramWrite_status (k : Nat) (b : Bytes) : (paramWrite k b s).status = s.status := rfl
@[simp] theorem paramWrite_statusIsFresh (k : Nat) (b : Bytes) : (paramWrite k b s).statusIsFresh = s.statusIsFresh := rfl
@[simp] theorem paramWrite_params (k : Nat) (b : Bytes) : (paramWrite k b s).params = s.params.set k (some b) := rfl
@[simp] theorem paramWrite_sigOutput (k : Nat) (b : Bytes) : (paramWrite k b s).sigOutput = s.sigOutput := rfl
@[simp] theorem paramWrite_sigInput (k : Nat) (b : Bytes) : (paramWrite k b s).sigInput = s.sigInput := rfl
@[simp] theorem paramWrite_backendUp (k : Nat) (b : Bytes) : (paramWrite k b s).backendUp = s.backendUp := rfl
@[simp] theorem paramWrite_fatal (k : Nat) (b : Bytes) : (paramWrite k b s).fatal = s.fatal := rfl
@[simp] theorem paramWrite_cfg (k : Nat) (b : Bytes) : (paramWrite k b s).cfg = s.cfg := rfl
@[simp] theorem paramWrite_inputs (k : Nat) (b : Bytes) : (paramWrite k b s).inputs = s.inputs := rfl
@[simp] theorem paramWrite_response (k : Nat) (b : Bytes) : (paramWrite k b s).response = s.response := rfl
@[simp] theorem paramWrite_backendCalls (k : Nat) (b : Bytes) : (paramWrite k b s).backendCalls = s.backendCalls := rfl
@[simp] theorem paramWrite_outstanding (k : Nat) (b : Bytes) : (paramWrite k b s).outstanding = s.outstanding := rfl
@[simp] theorem paramWrite_dispatchResult (k : Nat) (b : Bytes) : (paramWrite k b s).dispatchResult = s.dispatchResult := rfl
@[simp] theorem paramWrite_shutdownAnswers (k : Nat) (b : Bytes) : (paramWrite k b s).shutdownAnswers = s.shutdownAnswers := rfl
@[simp] theorem paramWrite_initAnswers (k : Nat) (b : Bytes) : (paramWrite k b s).initAnswers = s.initAnswers := rfl
@[simp] theorem paramWrite_executeAnswers (k : Nat) (b : Bytes) : (paramWrite k b s).executeAnswers = s.executeAnswers := rfl
@[simp] theorem paramWrite_draws (k : Nat) (b : Bytes) : (paramWrite k b s).draws = s.draws := rfl

@[simp] theorem recordCall_pending (call : BackendCall) : (recordCall call s).pending = s.pending := rfl
@[simp] theorem recordCall_latchedCommand (call : BackendCall) : (recordCall call s).latchedCommand = s.latchedCommand := rfl
@[simp] theorem recordCall_latchedParameter (call : BackendCall) : (recordCall call s).latchedParameter = s.latchedParameter := rfl
@[simp] theorem recordCall_status (call : BackendCall) : (recordCall call s).status = s.status := rfl
@[simp] theorem recordCall_statusIsFresh (call : BackendCall) : (recordCall call s).statusIsFresh = s.statusIsFresh := rfl
@[simp] theorem recordCall_params (call : BackendCall) : (recordCall call s).params = s.params := rfl
@[simp] theorem recordCall_sigOutput (call : BackendCall) : (recordCall call s).sigOutput = s.sigOutput := rfl
@[simp] theorem recordCall_sigInput (call : BackendCall) : (recordCall call s).sigInput = s.sigInput := rfl
@[simp] theorem recordCall_backendUp (call : BackendCall) : (recordCall call s).backendUp = s.backendUp := rfl
@[simp] theorem recordCall_fatal (call : BackendCall) : (recordCall call s).fatal = s.fatal := rfl
@[simp] theorem recordCall_cfg (call : BackendCall) : (recordCall call s).cfg = s.cfg := rfl
@[simp] theorem recordCall_inputs (call : BackendCall) : (recordCall call s).inputs = s.inputs := rfl
@[simp] theorem recordCall_response (call : BackendCall) : (recordCall call s).response = s.response := rfl
@[simp] theorem recordCall_backendCalls (call : BackendCall) : (recordCall call s).backendCalls = s.backendCalls ++ [call] := rfl
@[simp] theorem recordCall_outstanding (call : BackendCall) : (recordCall call s).outstanding = s.outstanding := rfl
@[simp] theorem recordCall_dispatchResult (call : BackendCall) : (recordCall call s).dispatchResult = s.dispatchResult := rfl
@[simp] theorem recordCall_shutdownAnswers (call : BackendCall) : (recordCall call s).shutdownAnswers = s.shutdownAnswers := rfl
@[simp] theorem recordCall_initAnswers (call : BackendCall) : (recordCall call s).initAnswers = s.initAnswers := rfl
@[simp] theorem recordCall_executeAnswers (call : BackendCall) : (recordCall call s).executeAnswers = s.executeAnswers := rfl
@[simp] theorem recordCall_draws (call : BackendCall) : (recordCall call s).draws = s.draws := rfl

@[simp] theorem returnStatus_pending (st : StatusReg) : (returnStatus st s).pending = s.pending := rfl
@[simp] theorem returnStatus_latchedCommand (st : StatusReg) : (returnStatus st s).latchedCommand = s.latchedCommand := rfl
@[simp] theorem returnStatus_latchedParameter (st : StatusReg) : (returnStatus st s).latchedParameter = s.latchedParameter := rfl
@[simp] theorem returnStatus_status (st : StatusReg) : (returnStatus st s).status = s.status := rfl
@[simp] theorem returnStatus_statusIsFresh (st : StatusReg) : (returnStatus st s).statusIsFresh = s.statusIsFresh := rfl
@[simp] theorem returnStatus_params (st : StatusReg) : (returnStatus st s).params = s.params := rfl
@[simp] theorem returnStatus_sigOutput (st : StatusReg) : (returnStatus st s).sigOutput = s.sigOutput := rfl
@[simp] theorem returnStatus_sigInput (st : StatusReg) : (returnStatus st s).sigInput = s.sigInput := rfl
@[simp] theorem returnStatus_backendUp (st : StatusReg) : (returnStatus st s).backendUp = s.backendUp := rfl
@[simp] theorem returnStatus_fatal (st : StatusReg) : (returnStatus st s).fatal = s.fatal := rfl
@[simp] theorem returnStatus_cfg (st : StatusReg) : (returnStatus st s).cfg = s.cfg := rfl
@[simp] theorem returnStatus_inputs (st : StatusReg) : (returnStatus st s).inputs = s.inputs := rfl
@[simp] theorem returnStatus_response (st : StatusReg) : (returnStatus st s).response = s.response := rfl
@[simp] theorem returnStatus_backendCalls (st : StatusReg) : (returnStatus st s).backendCalls = s.backendCalls := rfl
@[simp] theorem returnStatus_outstanding (st : StatusReg) : (returnStatus st s).outstanding = s.outstanding := rfl
@[simp] theorem returnStatus_dispatchResult (st : StatusReg) : (returnStatus st s).dispatchResult = some st := rfl
@[simp] theorem returnStatus_shutdownAnswers (st : StatusReg) : (returnStatus st s).shutdownAnswers = s.shutdownAnswers := rfl
@[simp] theorem returnStatus_initAnswers (st : StatusReg) : (returnStatus st s).initAnswers = s.initAnswers := rfl
@[simp] theorem returnStatus_executeAnswers (st : StatusReg) : (returnStatus st s).executeAnswers = s.executeAnswers := rfl
@[simp] theorem returnStatus_draws (st : StatusReg) : (returnStatus st s).draws = s.draws := rfl

@[simp] theorem raiseFatal_pending : (raiseFatal s).pending = s.pending := rfl
@[simp] theorem raiseFatal_latchedCommand : (raiseFatal s).latchedCommand = s.latchedCommand := rfl
@[simp] theorem raiseFatal_latchedParameter : (raiseFatal s).latchedParameter = s.latchedParameter := rfl
@[simp] theorem raiseFatal_status : (raiseFatal s).status = s.status := rfl
@[simp] theorem raiseFatal_statusIsFresh : (raiseFatal s).statusIsFresh = s.statusIsFresh := rfl
@[simp] theorem raiseFatal_params : (raiseFatal s).params = s.params := rfl
@[simp] theorem raiseFatal_sigOutput : (raiseFatal s).sigOutput = s.sigOutput := rfl
@[simp] theorem raiseFatal_sigInput : (raiseFatal s).sigInput = s.sigInput := rfl
@[simp] theorem raiseFatal_backendUp : (raiseFatal s).backendUp = s.backendUp := rfl
@[simp] theorem raiseFatal_fatal : (raiseFatal s).fatal = true := rfl
@[simp] theorem raiseFatal_cfg : (raiseFatal s).cfg = s.cfg := rfl
@[simp] theorem raiseFatal_inputs : (raiseFatal s).inputs = s.inputs := rfl
@[simp] theorem raiseFatal_response : (raiseFatal s).response = none := rfl
@[simp] theorem raiseFatal_backendCalls : (raiseFatal s).backendCalls = s.backendCalls := rfl
@[simp] theorem raiseFatal_outstanding : (raiseFatal s).outstanding = s.outstanding := rfl
@[simp] theorem raiseFatal_dispatchResult : (raiseFatal s).dispatchResult = none := rfl
@[simp] theorem raiseFatal_shutdownAnswers : (raiseFatal s).shutdownAnswers = s.shutdownAnswers := rfl
@[simp] theorem raiseFatal_initAnswers : (raiseFatal s).initAnswers = s.initAnswers := rfl
@[simp] theorem raiseFatal_executeAnswers : (raiseFatal s).executeAnswers = s.executeAnswers := rfl
@[simp] theorem raiseFatal_draws : (raiseFatal s).draws = s.draws := rfl

@[simp] theorem blockOn_pending (call : BackendCall) : (blockOn call s).pending = s.pending := rfl
@[simp] theorem blockOn_latchedCommand (call : BackendCall) : (blockOn call s).latchedCommand = s.latchedCommand := rfl
@[simp] theorem blockOn_latchedParameter (call : BackendCall) : (blockOn call s).latchedParameter = s.latchedParameter := rfl
@[simp] theorem blockOn_status (call : BackendCall) : (blockOn call s).status = s.status := rfl
@[simp] theorem blockOn_statusIsFresh (call : BackendCall) : (blockOn call s).statusIsFresh = s.statusIsFresh := rfl
@[simp] theorem blockOn_params (call : BackendCall) : (blockOn call s).params = s.params := rfl
@[simp] theorem blockOn_sigOutput (call : BackendCall) : (blockOn call s).sigOutput = s.sigOutput := rfl
@[simp] theorem blockOn_sigInput (call : BackendCall) : (blockOn call s).sigInput = s.sigInput := rfl
@[simp] theorem blockOn_backendUp (call : BackendCall) : (blockOn call s).backendUp = s.backendUp := rfl
@[simp] theorem blockOn_fatal (call : BackendCall) : (blockOn call s).fatal = s.fatal := rfl
@[simp] theorem blockOn_cfg (call : BackendCall) : (blockOn call s).cfg = s.cfg := rfl
@[simp] theorem blockOn_inputs (call : BackendCall) : (blockOn call s).inputs = s.inputs := rfl
@[simp] theorem blockOn_response (call : BackendCall) : (blockOn call s).response = none := rfl
@[simp] theorem blockOn_backendCalls (call : BackendCall) : (blockOn call s).backendCalls = s.backendCalls := rfl
@[simp] theorem blockOn_outstanding (call : BackendCall) : (blockOn call s).outstanding = some call := rfl
@[simp] theorem blockOn_dispatchResult (call : BackendCall) : (blockOn call s).dispatchResult = none := rfl
@[simp] theorem blockOn_shutdownAnswers (call : BackendCall) : (blockOn call s).shutdownAnswers = s.shutdownAnswers := rfl
@[simp] theorem blockOn_initAnswers (call : BackendCall) : (blockOn call s).initAnswers = s.initAnswers := rfl
@[simp] theorem blockOn_executeAnswers (call : BackendCall) : (blockOn call s).executeAnswers = s.executeAnswers := rfl
@[simp] theorem blockOn_draws (call : BackendCall) : (blockOn call s).draws = s.draws := rfl

@[simp] theorem arm_pending (c : BitVec 8) (p : BitVec 23) : (arm c p s).pending = true := rfl
@[simp] theorem arm_latchedCommand (c : BitVec 8) (p : BitVec 23) : (arm c p s).latchedCommand = c := rfl
@[simp] theorem arm_latchedParameter (c : BitVec 8) (p : BitVec 23) : (arm c p s).latchedParameter = p := rfl
@[simp] theorem arm_status (c : BitVec 8) (p : BitVec 23) : (arm c p s).status = statusBusy s.cfg := rfl
@[simp] theorem arm_statusIsFresh (c : BitVec 8) (p : BitVec 23) : (arm c p s).statusIsFresh = s.statusIsFresh := rfl
@[simp] theorem arm_params (c : BitVec 8) (p : BitVec 23) : (arm c p s).params = s.params := rfl
@[simp] theorem arm_sigOutput (c : BitVec 8) (p : BitVec 23) : (arm c p s).sigOutput = s.sigOutput := rfl
@[simp] theorem arm_sigInput (c : BitVec 8) (p : BitVec 23) : (arm c p s).sigInput = s.sigInput := rfl
@[simp] theorem arm_backendUp (c : BitVec 8) (p : BitVec 23) : (arm c p s).backendUp = s.backendUp := rfl
@[simp] theorem arm_fatal (c : BitVec 8) (p : BitVec 23) : (arm c p s).fatal = s.fatal := rfl
@[simp] theorem arm_cfg (c : BitVec 8) (p : BitVec 23) : (arm c p s).cfg = s.cfg := rfl
@[simp] theorem arm_inputs (c : BitVec 8) (p : BitVec 23) : (arm c p s).inputs = s.inputs := rfl
@[simp] theorem arm_response (c : BitVec 8) (p : BitVec 23) : (arm c p s).response = s.response := rfl
@[simp] theorem arm_backendCalls (c : BitVec 8) (p : BitVec 23) : (arm c p s).backendCalls = s.backendCalls := rfl
@[simp] theorem arm_outstanding (c : BitVec 8) (p : BitVec 23) : (arm c p s).outstanding = s.outstanding := rfl
@[simp] theorem arm_dispatchResult (c : BitVec 8) (p : BitVec 23) : (arm c p s).dispatchResult = s.dispatchResult := rfl
@[simp] theorem arm_shutdownAnswers (c : BitVec 8) (p : BitVec 23) : (arm c p s).shutdownAnswers = s.shutdownAnswers := rfl
@[simp] theorem arm_initAnswers (c : BitVec 8) (p : BitVec 23) : (arm c p s).initAnswers = s.initAnswers := rfl
@[simp] theorem arm_executeAnswers (c : BitVec 8) (p : BitVec 23) : (arm c p s).executeAnswers = s.executeAnswers := rfl
@[simp] theorem arm_draws (c : BitVec 8) (p : BitVec 23) : (arm c p s).draws = s.draws := rfl

@[simp] theorem idle_pending : (idle s).pending = s.pending := rfl
@[simp] theorem idle_latchedCommand : (idle s).latchedCommand = s.latchedCommand := rfl
@[simp] theorem idle_latchedParameter : (idle s).latchedParameter = s.latchedParameter := rfl
@[simp] theorem idle_status : (idle s).status = statusReady s.cfg := rfl
@[simp] theorem idle_statusIsFresh : (idle s).statusIsFresh = s.statusIsFresh := rfl
@[simp] theorem idle_params : (idle s).params = s.params := rfl
@[simp] theorem idle_sigOutput : (idle s).sigOutput = s.sigOutput := rfl
@[simp] theorem idle_sigInput : (idle s).sigInput = s.sigInput := rfl
@[simp] theorem idle_backendUp : (idle s).backendUp = s.backendUp := rfl
@[simp] theorem idle_fatal : (idle s).fatal = s.fatal := rfl
@[simp] theorem idle_cfg : (idle s).cfg = s.cfg := rfl
@[simp] theorem idle_inputs : (idle s).inputs = s.inputs := rfl
@[simp] theorem idle_response : (idle s).response = s.response := rfl
@[simp] theorem idle_backendCalls : (idle s).backendCalls = s.backendCalls := rfl
@[simp] theorem idle_outstanding : (idle s).outstanding = s.outstanding := rfl
@[simp] theorem idle_dispatchResult : (idle s).dispatchResult = s.dispatchResult := rfl
@[simp] theorem idle_shutdownAnswers : (idle s).shutdownAnswers = s.shutdownAnswers := rfl
@[simp] theorem idle_initAnswers : (idle s).initAnswers = s.initAnswers := rfl
@[simp] theorem idle_executeAnswers : (idle s).executeAnswers = s.executeAnswers := rfl
@[simp] theorem idle_draws : (idle s).draws = s.draws := rfl

@[simp] theorem setOutput_pending (b : Bytes) : (setOutput b s).pending = s.pending := rfl
@[simp] theorem setOutput_latchedCommand (b : Bytes) : (setOutput b s).latchedCommand = s.latchedCommand := rfl
@[simp] theorem setOutput_latchedParameter (b : Bytes) : (setOutput b s).latchedParameter = s.latchedParameter := rfl
@[simp] theorem setOutput_status (b : Bytes) : (setOutput b s).status = s.status := rfl
@[simp] theorem setOutput_statusIsFresh (b : Bytes) : (setOutput b s).statusIsFresh = s.statusIsFresh := rfl
@[simp] theorem setOutput_params (b : Bytes) : (setOutput b s).params = s.params := rfl
@[simp] theorem setOutput_sigOutput (b : Bytes) : (setOutput b s).sigOutput = some b := rfl
@[simp] theorem setOutput_sigInput (b : Bytes) : (setOutput b s).sigInput = s.sigInput := rfl
@[simp] theorem setOutput_backendUp (b : Bytes) : (setOutput b s).backendUp = s.backendUp := rfl
@[simp] theorem setOutput_fatal (b : Bytes) : (setOutput b s).fatal = s.fatal := rfl
@[simp] theorem setOutput_cfg (b : Bytes) : (setOutput b s).cfg = s.cfg := rfl
@[simp] theorem setOutput_inputs (b : Bytes) : (setOutput b s).inputs = s.inputs := rfl
@[simp] theorem setOutput_response (b : Bytes) : (setOutput b s).response = s.response := rfl
@[simp] theorem setOutput_backendCalls (b : Bytes) : (setOutput b s).backendCalls = s.backendCalls := rfl
@[simp] theorem setOutput_outstanding (b : Bytes) : (setOutput b s).outstanding = s.outstanding := rfl
@[simp] theorem setOutput_dispatchResult (b : Bytes) : (setOutput b s).dispatchResult = s.dispatchResult := rfl
@[simp] theorem setOutput_shutdownAnswers (b : Bytes) : (setOutput b s).shutdownAnswers = s.shutdownAnswers := rfl
@[simp] theorem setOutput_initAnswers (b : Bytes) : (setOutput b s).initAnswers = s.initAnswers := rfl
@[simp] theorem setOutput_executeAnswers (b : Bytes) : (setOutput b s).executeAnswers = s.executeAnswers := rfl
@[simp] theorem setOutput_draws (b : Bytes) : (setOutput b s).draws = s.draws := rfl

@[simp] theorem resetEvent_pending : (resetEvent s).pending = false := rfl
@[simp] theorem resetEvent_latchedCommand : (resetEvent s).latchedCommand = 0 := rfl
@[simp] theorem resetEvent_latchedParameter : (resetEvent s).latchedParameter = 0 := rfl
@[simp] theorem resetEvent_status : (resetEvent s).status = ⟨false, false, 0, 0⟩ := rfl
@[simp] theorem resetEvent_statusIsFresh : (resetEvent s).statusIsFresh = false := rfl
@[simp] theorem resetEvent_params : (resetEvent s).params = s.cfg.descriptors.map fun _ => none := rfl
@[simp] theorem resetEvent_sigOutput : (resetEvent s).sigOutput = none := rfl
@[simp] theorem resetEvent_sigInput : (resetEvent s).sigInput = List.replicate 8 0 := rfl
@[simp] theorem resetEvent_backendUp : (resetEvent s).backendUp = s.cfg.backendUpAtReset := rfl
@[simp] theorem resetEvent_fatal : (resetEvent s).fatal = false := rfl
@[simp] theorem resetEvent_cfg : (resetEvent s).cfg = s.cfg := rfl
@[simp] theorem resetEvent_inputs : (resetEvent s).inputs = s.inputs := rfl
@[simp] theorem resetEvent_response : (resetEvent s).response = none := rfl
@[simp] theorem resetEvent_backendCalls : (resetEvent s).backendCalls = [] := rfl
@[simp] theorem resetEvent_outstanding : (resetEvent s).outstanding = none := rfl
@[simp] theorem resetEvent_dispatchResult : (resetEvent s).dispatchResult = none := rfl
@[simp] theorem resetEvent_shutdownAnswers : (resetEvent s).shutdownAnswers = s.shutdownAnswers := rfl
@[simp] theorem resetEvent_initAnswers : (resetEvent s).initAnswers = s.initAnswers := rfl
@[simp] theorem resetEvent_executeAnswers : (resetEvent s).executeAnswers = s.executeAnswers := rfl
@[simp] theorem resetEvent_draws : (resetEvent s).draws = s.draws := rfl

end Sys2Proof.Machine
end

