-- ==== Sys2Proof/Laws/Ops.lean ====
section
/-! SUPPORT. One lemma per shared operation that says everything it can do; the canonical form of memory is kept by every
operation on it. -/

namespace Sys2Proof.Machine

/-- What a backend call or a draw may touch: the answers left, the draws made, and the calls recorded (log 7, log 9). -/
def EnvStep (calls : List BackendCall) (s t : State) : Prop :=
  ∃ sa ia ea n, t = { s with
    shutdownAnswers := sa, initAnswers := ia, executeAnswers := ea, draws := n, backendCalls := s.backendCalls ++ calls }

theorem EnvStep.refl (s : State) : EnvStep [] s s :=
  ⟨s.shutdownAnswers, s.initAnswers, s.executeAnswers, s.draws, by simp⟩

theorem EnvStep.trans {c d : List BackendCall} {s t u : State} (h : EnvStep c s t) (k : EnvStep d t u) :
    EnvStep (c ++ d) s u := by
  obtain ⟨sa, ia, ea, n, rfl⟩ := h
  obtain ⟨sa', ia', ea', n', rfl⟩ := k
  exact ⟨sa', ia', ea', n', by simp⟩

theorem EnvStep.backendCalls {c : List BackendCall} {s t : State} (h : EnvStep c s t) :
    t.backendCalls = s.backendCalls ++ c := by
  obtain ⟨sa, ia, ea, n, rfl⟩ := h; rfl

theorem callShutdown_env (s : State) : EnvStep [.shutdown] s (callShutdown s).2 := by
  unfold callShutdown
  split <;> exact ⟨_, _, _, _, rfl⟩

theorem callInit_env (s : State) : EnvStep [.initBackend] s (callInit s).2 := by
  unfold callInit
  split <;> exact ⟨_, _, _, _, rfl⟩

theorem callExecute_env (c : BitVec 8) (p : BitVec 23) (s : State) :
    EnvStep [.execute c p] s (callExecute c p s).2 := by
  unfold callExecute
  split <;> exact ⟨_, _, _, _, rfl⟩

theorem drawBytes_length (n : Nat) (s : State) : (drawBytes n s).1.length = n := by simp [drawBytes]

theorem drawBytes_state (n : Nat) (s : State) : (drawBytes n s).2 = { s with draws := s.draws + 1 } := rfl

/-- A written entry reads as its bytes, and nothing changes; an unwritten one is a draw of its length. -/
theorem paramRead_cases (k : Nat) (s : State) :
    (∃ b, s.params[k]? = some (some b) ∧ paramRead k s = (b, s)) ∨
      (s.params.getD k none = none ∧ paramRead k s = drawBytes (expectedLength s.cfg k) s) := by
  unfold paramRead
  rcases h : s.params.getD k none with _ | b
  · exact .inr ⟨rfl, rfl⟩
  · refine .inl ⟨b, ?_, rfl⟩
    rw [List.getD_eq_getElem?_getD] at h
    cases hk : s.params[k]? with
    | none => simp [hk] at h
    | some v => simp_all

theorem paramRead_written {k : Nat} {s : State} {b : Bytes} (h : s.params[k]? = some (some b)) :
    paramRead k s = (b, s) := by
  simp [paramRead, List.getD_eq_getElem?_getD, h]

theorem paramRead_state (k : Nat) (s : State) : ∃ n, (paramRead k s).2 = { s with draws := n } := by
  rcases paramRead_cases k s with ⟨b, _, h⟩ | ⟨_, h⟩ <;> rw [h]
  · exact ⟨s.draws, rfl⟩
  · exact ⟨_, rfl⟩

/-- The signal output is read as its bytes, or drawn. -/
theorem readSigOutput_cases (s : State) :
    (∃ b, s.sigOutput = some b ∧ readSigOutput s = (b, s)) ∨
      (s.sigOutput = none ∧ readSigOutput s = drawBytes 8 s) := by
  unfold readSigOutput
  rcases s.sigOutput with _ | b
  · exact .inr ⟨rfl, rfl⟩
  · exact .inl ⟨b, rfl, rfl⟩

theorem readSigOutput_state (s : State) : ∃ n, (readSigOutput s).2 = { s with draws := n } := by
  rcases readSigOutput_cases s with ⟨b, _, h⟩ | ⟨_, h⟩ <;> rw [h]
  · exact ⟨s.draws, rfl⟩
  · exact ⟨_, rfl⟩

theorem readGain_state (s : State) : ∃ n, (readGain s).2 = { s with draws := n } :=
  paramRead_state (gainEntry s.cfg) s

theorem floatProduct_state (fb g : Word) (s : State) : ∃ n, (floatProduct fb g s).2 = { s with draws := n } := by
  unfold floatProduct
  split
  · exact ⟨s.draws, rfl⟩
  · exact ⟨_, rfl⟩

theorem be32bytes_length (v : Word) : (be32bytes v).length = 4 := rfl

theorem signalBuffer_length (i f : Word) : (signalBuffer i f).length = 8 := rfl

/-- `compute_input` gives 8 bytes, writes them to `sig_input`, and may draw; nothing else changes (R201, R208). -/
theorem computeInput_spec (s : State) :
    ∃ n, (computeInput s).2 = { s with draws := n, sigInput := (computeInput s).1 } ∧
      (computeInput s).1.length = 8 := by
  obtain ⟨n1, h1⟩ := readSigOutput_state s
  obtain ⟨n2, h2⟩ := readGain_state (readSigOutput s).2
  obtain ⟨n3, h3⟩ := floatProduct_state (floatField (readSigOutput s).1) (readGain (readSigOutput s).2).1
    (readGain (readSigOutput s).2).2
  refine ⟨n3, ?_, rfl⟩
  simp only [computeInput]
  rw [h3, h2, h1]

theorem paramsFit_length : ∀ {ds : List Descriptor} {ps : List (Option Bytes)}, paramsFit ds ps = true →
    ps.length = ds.length
  | [], [], _ => rfl
  | _ :: _, _ :: _, h => by
    simp only [paramsFit, Bool.and_eq_true] at h
    simp [paramsFit_length h.2]
  | [], _ :: _, h => by simp [paramsFit] at h
  | _ :: _, [], h => by simp [paramsFit] at h

theorem paramsFit_unwritten : ∀ ds : List Descriptor, paramsFit ds (ds.map fun _ => none) = true
  | [] => rfl
  | _ :: ds => by rw [List.map_cons, paramsFit, paramsFit_unwritten ds]; rfl

theorem paramsFit_set : ∀ {ds : List Descriptor} {ps : List (Option Bytes)} {k : Nat} {b : Bytes},
    paramsFit ds ps = true → (ds[k]?.map Descriptor.expectedLengthBytes).getD 0 = b.length →
      paramsFit ds (ps.set k (some b)) = true
  | [], [], _, _, _, _ => rfl
  | d :: ds, p :: ps, 0, b, h, hk => by
    simp only [paramsFit, Bool.and_eq_true] at h ⊢
    simp only [List.getElem?_cons_zero, Option.map_some, Option.getD_some] at hk
    simp [h.2, hk, List.set, paramsFit]
  | d :: ds, p :: ps, k + 1, b, h, hk => by
    simp only [paramsFit, Bool.and_eq_true] at h
    simp only [List.getElem?_cons_succ] at hk
    simp [List.set, paramsFit, h.1, paramsFit_set h.2 hk]
  | [], _ :: _, _, _, h, _ => by simp [paramsFit] at h
  | _ :: _, [], _, _, h, _ => by simp [paramsFit] at h

theorem paramsFit_entry : ∀ {ds : List Descriptor} {ps : List (Option Bytes)} {k : Nat} {b : Bytes},
    paramsFit ds ps = true → ps[k]? = some (some b) →
      b.length = (ds[k]?.map Descriptor.expectedLengthBytes).getD 0
  | [], [], _, _, _, hk => by simp at hk
  | d :: ds, p :: ps, 0, b, h, hk => by
    simp only [List.getElem?_cons_zero, Option.some.injEq] at hk
    subst hk
    simp only [paramsFit, Bool.and_eq_true, beq_iff_eq] at h
    simp [h.1]
  | d :: ds, p :: ps, k + 1, b, h, hk => by
    simp only [paramsFit, Bool.and_eq_true] at h
    simp only [List.getElem?_cons_succ] at hk ⊢
    exact paramsFit_entry h.2 hk
  | [], _ :: _, _, _, h, _ => by simp [paramsFit] at h
  | _ :: _, [], _, _, h, _ => by simp [paramsFit] at h

/-- `ParamWrite` of a buffer of the entry's length keeps the canonical form. -/
theorem paramWrite_wf {k : Nat} {b : Bytes} {s : State} (h : Memory.wf s = true)
    (hk : b.length = expectedLength s.cfg k) : Memory.wf (paramWrite k b s) = true := by
  simp only [Memory.wf, Bool.and_eq_true] at h ⊢
  exact ⟨⟨paramsFit_set h.1.1 hk.symm, h.1.2⟩, h.2⟩

/-- `set_output` of 8 bytes keeps the canonical form. -/
theorem setOutput_wf {b : Bytes} {s : State} (h : Memory.wf s = true) (hb : b.length = 8) :
    Memory.wf (setOutput b s) = true := by
  simp only [Memory.wf, Bool.and_eq_true] at h ⊢
  exact ⟨⟨h.1.1, by simp [setOutput, hb]⟩, h.2⟩

/-- `compute_input` keeps the canonical form. -/
theorem computeInput_wf {s : State} (h : Memory.wf s = true) : Memory.wf (computeInput s).2 = true := by
  obtain ⟨n, h2, h8⟩ := computeInput_spec s
  rw [h2]
  simp only [Memory.wf, Bool.and_eq_true] at h ⊢
  exact ⟨h.1, by simp [h8]⟩

/-- `ParamRead` keeps the canonical form, and gives the entry's length. -/
theorem paramRead_wf {k : Nat} {s : State} (h : Memory.wf s = true) :
    Memory.wf (paramRead k s).2 = true ∧ (paramRead k s).1.length = expectedLength s.cfg k := by
  obtain ⟨n, hn⟩ := paramRead_state k s
  refine ⟨by rw [hn]; exact h, ?_⟩
  simp only [Memory.wf, Bool.and_eq_true] at h
  rcases paramRead_cases k s with ⟨b, hk, hb⟩ | ⟨_, hb⟩ <;> rw [hb]
  · exact paramsFit_entry h.1.1 hk
  · exact drawBytes_length _ _

/-- Reset memory is in the canonical form. -/
theorem resetOf_wf (c : Cfg) : Memory.wf (State.resetOf c) = true := by
  simp only [Memory.wf, State.resetOf, paramsFit_unwritten]
  rfl

theorem resetEvent_wf (s : State) : Memory.wf (resetEvent s) = true := by
  simp only [Memory.wf, resetEvent, State.resetOf, paramsFit_unwritten]
  rfl

end Sys2Proof.Machine
end

