-- ==== Sys2Proof/Laws/PerInstr.lean ====
section
/-! SUPPORT. Statements about instructions as syntax, one lemma per constructor. -/

/-- The encoder gives every instruction a unit of its row's format (the opcode table's `format` column). -/
def Sys2Proof.Laws.EncodeFormat.Statement (i : Sys2Proof.Instr) : Prop :=
  ∀ c : Sys2Proof.Cfg, (Sys2Proof.encode c i).format = i.format

namespace Sys2Proof.Laws.EncodeFormat

theorem consumeOutputCmd (subslot : Nat) (data : Bytes) : Statement (.consumeOutputCmd subslot data) := fun _ => rfl

theorem consumeOutputSig (subslot : Nat) (data : Bytes) : Statement (.consumeOutputSig subslot data) := fun _ => rfl

theorem consumeOutputOther (submoduleId : Nat) (subslot : Nat) (data : Bytes) : Statement (.consumeOutputOther submoduleId subslot data) := fun _ => rfl

theorem produceInputCmd (subslot : Nat) : Statement (.produceInputCmd subslot) := fun _ => rfl

theorem produceInputSig (subslot : Nat) : Statement (.produceInputSig subslot) := fun _ => rfl

theorem produceInputOther (submoduleId : Nat) (subslot : Nat) : Statement (.produceInputOther submoduleId subslot) := fun _ => rfl

theorem writeParameter (submoduleId : Nat) (index : Nat) (data : Bytes) : Statement (.writeParameter submoduleId index data) := fun _ => rfl

theorem readParameter (submoduleId : Nat) (index : Nat) (maxLen : BitVec 16) : Statement (.readParameter submoduleId index maxLen) := fun _ => rfl

theorem codecDecodeCommand (data : Bytes) : Statement (.codecDecodeCommand data) := fun _ => rfl

theorem codecEncodeCommand (execute : Bool) (command : BitVec 8) (parameter : BitVec 23) : Statement (.codecEncodeCommand execute command parameter) := fun _ => rfl

theorem codecDecodeStatus (data : Bytes) : Statement (.codecDecodeStatus data) := fun _ => rfl

theorem codecEncodeStatus (operational : Bool) (busy : Bool) (error : BitVec 8) (additionalStatus : BitVec 22) : Statement (.codecEncodeStatus operational busy error additionalStatus) := fun _ => rfl

theorem reservedOp (op : BitVec 3) : Statement (.reservedOp op) := fun _ => rfl

theorem reservedHeaderBits (reserved : BitVec 28) (op : BitVec 4) : Statement (.reservedHeaderBits reserved op) := fun _ => rfl

theorem cmdregArm (command : BitVec 8) (parameter : BitVec 23) : Statement (.cmdregArm command parameter) := fun _ => rfl

theorem cmdregReleaseFire (command : BitVec 8) (parameter : BitVec 23) : Statement (.cmdregReleaseFire command parameter) := fun _ => rfl

theorem cmdregReleaseIdle (command : BitVec 8) (parameter : BitVec 23) : Statement (.cmdregReleaseIdle command parameter) := fun _ => rfl

theorem dispatchNop (parameter : BitVec 23) : Statement (.dispatchNop parameter) := fun _ => rfl

theorem dispatchLocal (command : BitVec 8) (parameter : BitVec 23) : Statement (.dispatchLocal command parameter) := fun _ => rfl

theorem dispatchReboot (parameter : BitVec 23) : Statement (.dispatchReboot parameter) := fun _ => rfl

theorem dispatchPing (parameter : BitVec 23) : Statement (.dispatchPing parameter) := fun _ => rfl

theorem dispatchForward (command : BitVec 8) (parameter : BitVec 23) : Statement (.dispatchForward command parameter) := fun _ => rfl

end Sys2Proof.Laws.EncodeFormat
end

