-- ==== Sys2Proof/Laws/StateMachine.lean ====
section
/-! SUPPORT. What a dispatch, a fire and an evaluation of the state machine can do, each said once. -/

namespace Sys2Proof.Machine

/-- What a dispatch of class `k` can do. It calls the backend at most twice. Then it returns a settled status (only REBOOT
also brings the backend up), or, for REBOOT, raises Fatal, or is blocked in a call. -/
inductive DispatchStep (k : DispatchClass) (s : State) : State → Prop where
  | returned (calls : List BackendCall) (u : State) (st : StatusReg) (env : EnvStep calls s u) (two : calls.length ≤ 2)
      (op : st.operational = true) (idle : st.busy = false) : DispatchStep k s (returnStatus st u)
  | booted (u : State) (st : StatusReg) (reboot : k = .reboot) (env : EnvStep [.shutdown, .initBackend] s u)
      (op : st.operational = true) (idle : st.busy = false) :
      DispatchStep k s (returnStatus st { u with backendUp := true })
  | raised (u : State) (reboot : k = .reboot) (env : EnvStep [.shutdown, .initBackend] s u) :
      DispatchStep k s (raiseFatal u)
  | blocked (calls : List BackendCall) (call : BackendCall) (u : State) (env : EnvStep calls s u)
      (two : calls.length ≤ 2) : DispatchStep k s (blockOn call u)

theorem statusOfPair_settled (c : Cfg) (e : BitVec 8) (st : BitVec 32) :
    (statusOfPair c e st).operational = true ∧ (statusOfPair c e st).busy = false := by
  unfold statusOfPair
  split
  · exact ⟨rfl, rfl⟩
  · split <;> exact ⟨rfl, rfl⟩

theorem dispatchReboot_step (s : State) : DispatchStep .reboot s (dispatchReboot s) := by
  have h1 := callShutdown_env s
  unfold dispatchReboot
  split
  · rename_i s1 hs
    rw [hs] at h1
    exact .blocked _ _ _ h1 (by simp)
  · rename_i s1 hs
    rw [hs] at h1
    have h2 := h1.trans (callInit_env s1)
    split <;> rename_i s2 hs2 <;> rw [hs2] at h2
    · exact .booted _ _ rfl h2 rfl rfl
    · exact .raised _ rfl h2
    · exact .blocked _ _ _ h2 (by simp)

theorem dispatchForward_step (c : BitVec 8) (p : BitVec 23) (s : State) :
    DispatchStep .forward s (dispatchForward c p s) := by
  unfold dispatchForward
  split
  · have h := callExecute_env c p s
    split <;> rename_i s1 hs <;> rw [hs] at h
    · exact .returned _ _ _ h (by simp) (statusOfPair_settled ..).1 (statusOfPair_settled ..).2
    · exact .returned _ _ _ h (by simp) rfl rfl
    · exact .blocked _ _ _ h (by simp)
  · exact .returned _ _ _ (.refl s) (by simp) rfl rfl

theorem dispatch_step {c : BitVec 8} {p : BitVec 23} {s t : State} (h : dispatch c p s = t) :
    DispatchStep (classOf s.cfg c) s t := by
  subst h
  unfold dispatch
  split <;> rename_i h <;> rw [h]
  · exact .returned _ _ _ (.refl s) (by simp) rfl rfl
  · exact .returned _ _ _ (.refl s) (by simp) rfl rfl
  · exact dispatchReboot_step s
  · exact .returned _ _ _ (.refl s) (by simp) rfl rfl
  · exact dispatchForward_step c p s

@[simp] theorem commitFire_returnStatus (st : StatusReg) (s : State) :
    commitFire (returnStatus st s) = { s with status := st, pending := false, dispatchResult := none } := rfl

@[simp] theorem commitFire_raiseFatal (s : State) : commitFire (raiseFatal s) = raiseFatal s := rfl

@[simp] theorem commitFire_blockOn (call : BackendCall) (s : State) : commitFire (blockOn call s) = blockOn call s := rfl

/-- What an evaluation of the state machine can do from an accepting state (R130): it completes, with the status written and
marked fresh; or it raised Fatal; or it is blocked in a backend call. -/
inductive EvalStep (s : State) : State → Prop where
  /-- ARM (R132) -/
  | armed (c : BitVec 8) (p : BitVec 23) : EvalStep s { arm c p s with statusIsFresh := true }
  /-- IDLE (R134) -/
  | idled (notPending : s.pending = false) : EvalStep s { idle s with statusIsFresh := true }
  /-- FIRE (R133) -/
  | fired (calls : List BackendCall) (u : State) (st : StatusReg) (up : Bool) (pending : s.pending = true)
      (env : EnvStep calls s u) (two : calls.length ≤ 2) (op : st.operational = true) (notBusy : st.busy = false)
      (boot : up = s.backendUp ∨
        (up = true ∧ classOf s.cfg s.latchedCommand = .reboot ∧ calls = [.shutdown, .initBackend])) :
      EvalStep s { u with
        backendUp := up, status := st, pending := false, dispatchResult := none, statusIsFresh := true }
  /-- FIRE of a REBOOT whose initialize fails (R154, R263) -/
  | raised (u : State) (pending : s.pending = true) (reboot : classOf s.cfg s.latchedCommand = .reboot)
      (env : EnvStep [.shutdown, .initBackend] s u) : EvalStep s (raiseFatal u)
  /-- FIRE whose backend call does not return (R162) -/
  | blocked (calls : List BackendCall) (call : BackendCall) (u : State) (pending : s.pending = true)
      (env : EnvStep calls s u) (two : calls.length ≤ 2) : EvalStep s (blockOn call u)

theorem markFresh_completed {s : State} (h : s.aborted = false) : markFresh s = { s with statusIsFresh := true } := by
  simp [markFresh, h]

theorem markFresh_aborted {s : State} (h : s.aborted = true) : markFresh s = s := by simp [markFresh, h]

theorem not_aborted {s : State} (hf : s.fatal = false) (ho : s.outstanding = none) : s.aborted = false := by
  simp [State.aborted, hf, ho]

theorem smEval_step {b : Bytes} {s t : State} (hf : s.fatal = false) (ho : s.outstanding = none)
    (h : smEval b s = t) : EvalStep s t := by
  subst h
  unfold smEval
  dsimp only
  split
  · rw [markFresh_completed]
    · exact .armed _ _
    · exact not_aborted hf ho
  · split
    · rename_i hp
      unfold fire
      generalize hd : dispatch s.latchedCommand s.latchedParameter s = t
      cases dispatch_step hd with
      | returned calls u st env two op idle =>
        have := EvalStep.fired calls u st s.backendUp hp env two op idle (.inl rfl)
        obtain ⟨sa, ia, ea, n, rfl⟩ := env
        rw [commitFire_returnStatus, markFresh_completed]
        · exact this
        · exact not_aborted hf ho
      | booted u st reboot env op idle =>
        have := EvalStep.fired _ u st true hp env (by simp) op idle (.inr ⟨rfl, reboot, rfl⟩)
        obtain ⟨sa, ia, ea, n, rfl⟩ := env
        rw [commitFire_returnStatus, markFresh_completed]
        · exact this
        · exact not_aborted hf ho
      | raised u reboot env =>
        rw [commitFire_raiseFatal, markFresh_aborted (by simp [State.aborted])]
        exact .raised u hp reboot env
      | blocked calls call u env two =>
        rw [commitFire_blockOn, markFresh_aborted (by simp [State.aborted])]
        exact .blocked calls call u hp env two
    · rename_i hp
      rw [markFresh_completed]
      · exact .idled (by simpa using hp)
      · exact not_aborted hf ho

end Sys2Proof.Machine
end

