-- ==== Sys2Proof/Laws/Port.lean ====
section
/-! SUPPORT. What a request and a step can do, each said once. -/

namespace Sys2Proof.Machine

/-- What the step of a request can do, from the state in which it begins. -/
inductive RequestStep (s : State) : Instr → State → Prop where
  /-- a rejection, or an answer that reads state and writes none -/
  | answered (i : Instr) (r : Resp) (bare : r.code ≠ .ok → r = bareResp r.code) (len : r.rdata.length ≤ 4)
      (quality : r.qualityGood = true → ∃ ss, i = .produceInputCmd ss) : RequestStep s i (respond r s)
  /-- a successful read of entry `k` (R182) -/
  | read (sub index : Nat) (maxLen : BitVec 16) (k : Nat) (key : lookup s.cfg sub index = some k) :
      RequestStep s (.readParameter sub index maxLen)
        (respond (dataResp (paramRead k s).1 false) (paramRead k s).2)
  /-- a successful write of entry `k` (R181) -/
  | wrote (sub index : Nat) (data : Bytes) (k : Nat) (key : lookup s.cfg sub index = some k)
      (len : data.length = expectedLength s.cfg k) :
      RequestStep s (.writeParameter sub index data) (respond (dataResp [] false) (paramWrite k data s))
  /-- a signal output (R236) -/
  | output (subslot : Nat) (data : Bytes) (len : data.length = 8) :
      RequestStep s (.consumeOutputSig subslot data) (respond (dataResp [] false) (setOutput data s))
  /-- a signal input (R239) -/
  | input (subslot : Nat) :
      RequestStep s (.produceInputSig subslot) (respond (dataResp (computeInput s).1 true) (computeInput s).2)
  /-- a command register image (R235) -/
  | evaluated (subslot : Nat) (data : Bytes) (len : data.length = 4) :
      RequestStep s (.consumeOutputCmd subslot data) (respondIfComplete (smEval data s))

theorem reject_step (s : State) (i : Instr) (code : RespCode) : RequestStep s i (reject code s) :=
  .answered i (bareResp code) (fun _ => rfl) (by simp [bareResp]) (by simp [bareResp])

/-- Every instruction of the request format completes, in one of these ways. -/
theorem exec_request {i : Instr} (h : i.format = .req) (s : State) : ∃ t, exec i s = .next t ∧ RequestStep s i t := by
  cases i with
  | consumeOutputCmd ss data =>
    refine ⟨_, rfl, ?_⟩
    split
    · exact .evaluated ss data ‹_›
    · exact reject_step ..
  | consumeOutputSig ss data =>
    refine ⟨_, rfl, ?_⟩
    split
    · exact .output ss data ‹_›
    · exact reject_step ..
  | consumeOutputOther => exact ⟨_, rfl, reject_step ..⟩
  | produceInputCmd ss =>
    exact ⟨_, rfl, .answered _ _ (by simp [dataResp]) (by simp [dataResp, encodeStatus, be32bytes]) fun _ => ⟨ss, rfl⟩⟩
  | produceInputSig ss => exact ⟨_, rfl, .input ss⟩
  | produceInputOther => exact ⟨_, rfl, reject_step ..⟩
  | writeParameter sub index data =>
    simp only [exec, execWriteParameter]
    split
    · exact ⟨_, rfl, reject_step ..⟩
    · refine ⟨_, rfl, ?_⟩
      split
      · exact .wrote _ _ _ _ ‹_› ‹_›
      · exact reject_step ..
  | readParameter sub index maxLen =>
    simp only [exec, execReadParameter]
    split
    · exact ⟨_, rfl, reject_step ..⟩
    · split
      · exact ⟨_, rfl, reject_step ..⟩
      · exact ⟨_, rfl, .read _ _ _ _ ‹_›⟩
  | codecDecodeCommand data =>
    simp only [exec, execCodecDecodeCommand]
    split
    · exact ⟨_, rfl, reject_step ..⟩
    · exact ⟨_, rfl, .answered _ _ (by simp [bareResp]) (by simp [bareResp]) (by simp [bareResp])⟩
  | codecEncodeCommand =>
    exact ⟨_, rfl, .answered _ _ (by simp [dataResp]) (by simp [dataResp, encodeCommand, be32bytes])
      (by simp [dataResp])⟩
  | codecDecodeStatus data =>
    simp only [exec, execCodecDecodeStatus]
    split
    · exact ⟨_, rfl, reject_step ..⟩
    · exact ⟨_, rfl, .answered _ _ (by simp [bareResp]) (by simp [bareResp]) (by simp [bareResp])⟩
  | codecEncodeStatus =>
    exact ⟨_, rfl, .answered _ _ (by simp [dataResp]) (by simp [dataResp, encodeStatus, be32bytes])
      (by simp [dataResp])⟩
  | reservedOp => exact ⟨_, rfl, reject_step ..⟩
  | reservedHeaderBits => exact ⟨_, rfl, reject_step ..⟩
  | cmdregArm | cmdregReleaseFire | cmdregReleaseIdle => cases h
  | dispatchNop | dispatchLocal | dispatchReboot | dispatchPing | dispatchForward => cases h

/-- A request decodes to an instruction of the request format. -/
theorem decodeReq_format {c : Cfg} {r : Req} {i : Instr} (h : decodeReq c r = .ok i) : i.format = .req := by
  unfold decodeReq at h
  split at h
  · cases h
  · split at h
    · cases h; rfl
    · cases h
      unfold decodeOp route
      split <;> first
        | rfl
        | (split; rfl; split <;> rfl)

/-- What a step that answers a next state can be. -/
inductive StepCase (s : State) : State → Prop where
  /-- nothing is presented (log 3) -/
  | waits (none : s.inputs = []) : StepCase s s
  /-- a reset (R290) -/
  | resets (rest : List PortEvent) (head : s.inputs = .reset :: rest) : StepCase s (resetEvent { s with inputs := rest })
  /-- a request while fatal (R246) -/
  | ignored (r : Req) (rest : List PortEvent) (head : s.inputs = .request r :: rest) (fatal : s.fatal = true)
      (free : s.outstanding = none) : StepCase s (notAccepted { s with inputs := rest })
  /-- an accepted request (R230) -/
  | ran (r : Req) (rest : List PortEvent) (i : Instr) (t : State) (head : s.inputs = .request r :: rest)
      (ok : s.fatal = false) (free : s.outstanding = none) (decoded : decodeReq s.cfg r = .ok i)
      (did : exec i (beginRequest { s with inputs := rest }) = .next t)
      (how : RequestStep (beginRequest { s with inputs := rest }) i t) : StepCase s t

theorem step_cases {s t : State} (h : step s = .next t) : s.cfg.wf = true ∧ StepCase s t := by
  unfold step at h
  split at h
  · rename_i hw
    refine ⟨hw, ?_⟩
    unfold takeEvent at h
    split at h
    · cases h; exact .waits ‹_›
    · cases h; exact .resets _ ‹_›
    · rename_i r rest hi
      unfold presentRequest at h
      split at h
      · cases h
      · rename_i ho
        have ho : s.outstanding = none := by simpa using ho
        split at h
        · cases h; exact .ignored r rest hi ‹_› ho
        · rename_i hf
          unfold runRequest at h
          split at h
          · cases h
          · rename_i i hd
            have hd : decodeReq s.cfg r = .ok i := hd
            obtain ⟨u, hu, how⟩ := exec_request (decodeReq_format hd) (beginRequest { s with inputs := rest })
            obtain rfl : u = t := by rw [hu] at h; cases h; rfl
            exact .ran r rest i u hi (by simpa using hf) ho hd hu how
  · cases h

/-- A completed evaluation is answered OK. -/
theorem respondIfComplete_completed {s : State} (h : s.aborted = false) :
    respondIfComplete s = respond (dataResp [] false) s := by simp [respondIfComplete, h]

theorem respondIfComplete_aborted {s : State} (h : s.aborted = true) : respondIfComplete s = s := by
  simp [respondIfComplete, h]

end Sys2Proof.Machine
end

