-- ==== Sys2Proof/Laws/Run.lean ====
section
/-! SUPPORT. Runs of the machine, one step at a time. -/

namespace Sys2Proof.Machine

@[simp] theorem run_zero (s : State) : Host.Core.run core 0 s = .next s := rfl

theorem run_succ {s t : State} (n : Nat) (h : step s = .next t) :
    Host.Core.run core (n + 1) s = Host.Core.run core n t := by
  have h : core.step s = .next t := h
  simp only [Host.Core.run, h]

theorem run_succ_inv {s u : State} {n : Nat} (h : Host.Core.run core (n + 1) s = .next u) :
    ∃ t : State, step s = .next t ∧ Host.Core.run core n t = .next u := by
  simp only [Host.Core.run] at h
  split at h
  · exact ⟨_, ‹_›, h⟩
  · cases h
  · cases h

end Sys2Proof.Machine
end

