-- ==== Sys2Proof/Tests/Slice0.lean ====
section
/-! SUPPORT. The model's own tests. Expected values are the vectors of spec/95_test_vectors.md (V1 to V143, W1 to W13) and the
examples of the rules; each test names its source. The witnesses show that the hypotheses of the statements can be met. -/

namespace Sys2Proof.Tests

open Sys2Proof Sys2Proof.Machine

/-- TESTCFG. -/
def T : Cfg := Config.testCfg

/-- `S0` of 95_test_vectors.md: right after reset. -/
def S0 : State := State.reset

/-- TESTCFG with `LOCAL_UNDEFINED_CODES = {0x7F}` (V52). -/
def TLocal : Cfg := { T with localUndefinedCodes := [0x7F] }

/-- Armed with a command after a completed evaluation. -/
def armed (c : BitVec 8) (p : BitVec 23) (s : State) : State :=
  { s with
    pending := true, latchedCommand := c, latchedParameter := p, status := ⟨true, true, 0, 2⟩, statusIsFresh := true }

/-- The gain (entry 2 under TESTCFG) and the signal output are written. -/
def signals (g o : Bytes) (s : State) : State := { s with params := [none, none, some g], sigOutput := some o }

/-- The code, the data and the quality of the answer. -/
def answer (o : Host.Outcome State Fault Refusal) : Option (RespCode × Bytes × Bool) :=
  match o with
  | .next s => s.response.map fun r => (r.code, r.rdata, r.qualityGood)
  | .fault _ => none
  | .refused _ => none

/-- One field of the next state. -/
def after {α : Type} (f : State → α) (o : Host.Outcome State Fault Refusal) : Option α :=
  match o with
  | .next s => some (f s)
  | .fault _ => none
  | .refused _ => none

/-- The status a command-submodule input would report. -/
def statusImage (s : State) : Bytes := encodeStatus (reportedStatus s)

/-! ### Well-formedness: an ill-formed term for each check -/

theorem test_wf_submoduleIdTooWide :
    (Instr.readParameter (2 ^ 32) 0 0).violation T = some .submoduleIdTooWide := by decide

theorem test_wf_subslotTooWide : (Instr.produceInputCmd (2 ^ 16)).violation T = some .subslotTooWide := by decide

theorem test_wf_indexTooWide : (Instr.readParameter 0 (2 ^ 16) 0).violation T = some .indexTooWide := by decide

theorem test_wf_dataTooLong :
    (Instr.codecDecodeCommand (List.replicate 65536 0)).violation T = some .dataTooLong := by
  simp only [Instr.violation, Instr.checks, firstViolation, dataFits, List.length_replicate]
  decide

theorem test_wf_submoduleIsRouted : (Instr.produceInputOther 2 0).violation T = some .submoduleIsRouted := by decide

theorem test_wf_reservedBitsZero : (Instr.reservedHeaderBits 0 9).violation T = some .reservedBitsZero := by decide

theorem test_wf_codeNotLocal : (Instr.dispatchLocal 0x7E 0).violation TLocal = some .codeNotLocal := by decide

theorem test_wf_codeNotForwarded : (Instr.dispatchForward 0x7F 0).violation TLocal = some .codeNotForwarded := by
  decide

theorem test_wf_accepts :
    (Instr.consumeOutputOther 0xFFFFFFFF 0xFFFF [1, 2]).wf T = true ∧ (Instr.dispatchForward 0xFF 0).wf T = true ∧
      (Instr.dispatchLocal 0x7F 0).wf TLocal = true := by decide

/-! ### Configurations: R8, one ill-formed configuration for each condition -/

theorem test_cfg_accepts : T.wf = true ∧ TLocal.wf = true := by decide

theorem test_cfg_builtins : { T with cmdPing := 0x01 }.wf = false := by decide

theorem test_cfg_locals : { T with localUndefinedCodes := [0x7F, 0x02] }.wf = false := by decide

theorem test_cfg_submodules : { T with sigSub := 1 }.wf = false := by decide

theorem test_cfg_three : { T with descriptors := T.descriptors.drop 1 }.wf = false := by decide

theorem test_cfg_keys :
    { T with descriptors := [⟨1, 0x7B, 4, "a"⟩, ⟨1, 0x7B, 2, "b"⟩, ⟨2, 0x7D, 4, "gain"⟩] }.wf = false := by decide

theorem test_cfg_lengths :
    { T with descriptors := [⟨1, 0x7B, 0, "a"⟩, ⟨1, 0x7C, 2, "b"⟩, ⟨2, 0x7D, 4, "gain"⟩] }.wf = false ∧
      { T with descriptors := [⟨1, 0x7B, 65536, "a"⟩, ⟨1, 0x7C, 2, "b"⟩, ⟨2, 0x7D, 4, "gain"⟩] }.wf = false := by
  decide

theorem test_cfg_gain : { T with gainKey := (1, 0x7C) }.wf = false ∧ { T with gainKey := (3, 0x7D) }.wf = false := by
  decide

theorem test_cfg_refused :
    step { S0 with cfg := { T with sigSub := 1 } } = .refused .illFormedConfiguration := by rfl

/-! ### Decoding: words and units written out from the encodings of 30_encoding.md -/

/-- R90, op 0x0, submodule 1 = CMD_SUB; V39 -/
theorem test_decode_consume_cmd :
    decode T false (.req { Req.ofHeader 0x00000000 with
      submoduleId := 0x1, subslot := 1, len := 3, data := [0x81, 0x00, 0x00] }) =
      .ok (.consumeOutputCmd 1 [0x81, 0x00, 0x00]) := by decide

/-- R90, op 0x0, submodule 2 = SIG_SUB; V136 -/
theorem test_decode_consume_sig :
    decode T false (.req { Req.ofHeader 0x00000000 with
      submoduleId := 0x2, len := 4, data := [0x00, 0x00, 0x00, 0x01] }) =
      .ok (.consumeOutputSig 0 [0x00, 0x00, 0x00, 0x01]) := by decide

/-- R90, op 0x0, another submodule; V137 -/
theorem test_decode_consume_other :
    decode T false (.req { Req.ofHeader 0x00000000 with submoduleId := 0x3, len := 1, data := [0x00] }) =
      .ok (.consumeOutputOther 3 0 [0x00]) := by decide

/-- R90, op 0x1 and the three routes; V139, V141, V138 -/
theorem test_decode_produce :
    decode T false (.req { Req.ofHeader 0x00000001 with submoduleId := 0x1, subslot := 0xFFFF }) =
      .ok (.produceInputCmd 0xFFFF) ∧
    decode T false (.req { Req.ofHeader 0x00000001 with submoduleId := 0x2 }) = .ok (.produceInputSig 0) ∧
    decode T false (.req { Req.ofHeader 0x00000001 with submoduleId := 0x3 }) = .ok (.produceInputOther 3 0) := by
  decide

/-- R90, op 0x2; V71 -/
theorem test_decode_write :
    decode T false (.req { Req.ofHeader 0x00000002 with
      submoduleId := 0x1, index := 0x7B, len := 4, data := [0x00, 0x00, 0x00, 0x05] }) =
      .ok (.writeParameter 1 0x7B [0x00, 0x00, 0x00, 0x05]) := by decide

/-- R90, op 0x3; V80 -/
theorem test_decode_read :
    decode T false (.req { Req.ofHeader 0x00000003 with submoduleId := 0x1, index := 0x7B, maxLen := 0xFFFF }) =
      .ok (.readParameter 1 0x7B 0xFFFF) := by decide

/-- R90, ops 0x4 to 0x7; V3, V12, V19, V25 -/
theorem test_decode_codec :
    decode T false (.req { Req.ofHeader 0x00000004 with len := 4, data := [0x95, 0x12, 0x34, 0x56] }) =
      .ok (.codecDecodeCommand [0x95, 0x12, 0x34, 0x56]) ∧
    decode T false (.req { Req.ofHeader 0x00000005 with aBit1 := true, aCode8 := 0x2A, aVal23 := 0x123456 }) =
      .ok (.codecEncodeCommand true 0x2A 0x123456) ∧
    decode T false (.req { Req.ofHeader 0x00000006 with len := 4, data := [0xBF, 0xC0, 0x00, 0x05] }) =
      .ok (.codecDecodeStatus [0xBF, 0xC0, 0x00, 0x05]) ∧
    decode T false (.req { Req.ofHeader 0x00000007 with
      aBit1 := true, aBit2 := true, aCode8 := 0x80, aVal22 := 0x3FFFFF }) =
      .ok (.codecEncodeStatus true true 0x80 0x3FFFFF) := by decide

/-- R95; V130 to V133 -/
theorem test_decode_reserved :
    decodeTableWord 32 0x00000008 = some (.reservedOp 0) ∧ decodeTableWord 32 0x0000000F = some (.reservedOp 7) ∧
    decodeTableWord 32 0x00000010 = some (.reservedHeaderBits 1 0) ∧
    decodeTableWord 32 0x80000001 = some (.reservedHeaderBits 0x8000000 1) := by decide

/-- R81, R82: execute is the most significant bit; V34, V36, V37 -/
theorem test_decode_images :
    decode T false (.cmdreg [0x95, 0x12, 0x34, 0x56]) = .ok (.cmdregArm 0x2A 0x123456) ∧
    decode T true (.cmdreg [0x7F, 0xFF, 0xFF, 0xFF]) = .ok (.cmdregReleaseFire 0xFF 0x7FFFFF) ∧
    decode T false (.cmdreg [0x00, 0x80, 0x00, 0x00]) = .ok (.cmdregReleaseIdle 0x01 0) ∧
    decode T false (.cmdreg [0x81, 0x00, 0x00]) = .rejected .imageNotFourBytes := by decide

/-- R93, with bits 30-23 the code and bits 22-0 the parameter; V50, V52, V54, V56, V58 -/
theorem test_decode_latched :
    decode TLocal true (.latched 0x007FFFFF) = .ok (.dispatchNop 0x7FFFFF) ∧
    decode TLocal true (.latched 0x3F800000) = .ok (.dispatchLocal 0x7F 0) ∧
    decode TLocal true (.latched 0x00800055) = .ok (.dispatchReboot 0x55) ∧
    decode TLocal true (.latched 0x01000005) = .ok (.dispatchPing 5) ∧
    decode TLocal true (.latched 0x15123456) = .ok (.dispatchForward 0x2A 0x123456) := by decide

/-- D29, R89: each request the port cannot carry, by name -/
theorem test_decode_rejects :
    decode T false (.req { Req.ofHeader 0 with len := 4, data := [0] }) = .rejected .dataLengthNotLen ∧
    decode T false (.req { Req.ofHeader 1 with submoduleId := 2 ^ 32 }) = .rejected .submoduleIdTooWide ∧
    decode T false (.req { Req.ofHeader 1 with subslot := 2 ^ 16 }) = .rejected .subslotTooWide ∧
    decode T false (.req { Req.ofHeader 3 with index := 2 ^ 16 }) = .rejected .indexTooWide := by decide

/-! ### One step of each instruction -/

/-- V34: re-latched, BUSY -/
theorem test_consume_cmd_rearms :
    after (fun s => (s.pending, s.latchedCommand, s.latchedParameter, statusImage s, s.backendCalls))
      (exec (.consumeOutputCmd 0 [0x95, 0x12, 0x34, 0x56]) (armed 0x02 0 S0)) =
      some (true, 0x2A#8, 0x123456#23, [0xC0#8, 0x00#8, 0x00#8, 0x02#8], []) := by decide

/-- V36: PING fired, the release image's fields ignored, the latch kept -/
theorem test_consume_cmd_fires :
    after (fun s => (s.pending, s.latchedCommand, statusImage s))
      (exec (.consumeOutputCmd 0 [0x7F, 0xFF, 0xFF, 0xFF]) (armed 0x02 0 S0)) =
      some (false, 0x02#8, [0x80#8, 0x00#8, 0x00#8, 0x04#8]) := by decide

/-- the example of R200 -/
theorem test_consume_sig :
    after (fun s => s.sigOutput) (exec (.consumeOutputSig 0 [0x00, 0x00, 0x00, 0x03, 0x40, 0x20, 0x00, 0x00]) S0) =
      some (some [0x00#8, 0x00#8, 0x00#8, 0x03#8, 0x40#8, 0x20#8, 0x00#8, 0x00#8]) := by decide

/-- V136 -/
theorem test_consume_sig_wrong_length :
    answer (exec (.consumeOutputSig 0 [0x00, 0x00, 0x00, 0x01]) S0) = some (.unsupported, [], false) := by decide

/-- V137 -/
theorem test_consume_other : answer (exec (.consumeOutputOther 3 0 [0x00]) S0) = some (.unsupported, [], false) := by
  decide

/-- V140 -/
theorem test_produce_cmd_default :
    answer (exec (.produceInputCmd 0) S0) = some (.ok, [0x80, 0x00, 0x00, 0x01], true) := by decide

/-- V40 -/
theorem test_produce_cmd_armed :
    answer (exec (.produceInputCmd 0) (armed 0x02 0 S0)) = some (.ok, [0xC0, 0x00, 0x00, 0x02], true) := by decide

/-- the example of R201 -/
theorem test_produce_sig :
    answer (exec (.produceInputSig 0) (signals [0x00, 0x00, 0x00, 0x02]
      [0x00, 0x00, 0x00, 0x03, 0x40, 0x20, 0x00, 0x00] S0)) =
      some (.ok, [0x00, 0x00, 0x00, 0x06, 0x40, 0xA0, 0x00, 0x00], true) := by decide

/-- V94 and V110's sign rule: gain 3, -1 and -2.5 give -3 and -7.5 -/
theorem test_produce_sig_negative :
    answer (exec (.produceInputSig 0) (signals [0x00, 0x00, 0x00, 0x03]
      [0xFF, 0xFF, 0xFF, 0xFF, 0xC0, 0x20, 0x00, 0x00] S0)) =
      some (.ok, [0xFF, 0xFF, 0xFF, 0xFD, 0xC0, 0xF0, 0x00, 0x00], true) := by decide

/-- V138 -/
theorem test_produce_other : answer (exec (.produceInputOther 3 0) S0) = some (.none, [], false) := by decide

/-- V82: entry 1 alone is written -/
theorem test_write :
    after (fun s => s.params) (exec (.writeParameter 1 0x7C [0xAB, 0xCD]) S0) =
      some [none, some [0xAB#8, 0xCD#8], none] := by decide

/-- V75, V76: the key is tested before the length -/
theorem test_write_unknown :
    answer (exec (.writeParameter 2 0x7B [0x00, 0x00, 0x00, 0x05]) S0) = some (.unknownParameter, [], false) ∧
      answer (exec (.writeParameter 1 0x7E [0x00]) S0) = some (.unknownParameter, [], false) := by decide

/-- V80: exactly the entry's bytes -/
theorem test_read :
    answer (exec (.readParameter 1 0x7B 0xFFFF) { S0 with params := [some [0, 0, 0, 5], none, none] }) =
      some (.ok, [0x00, 0x00, 0x00, 0x05], false) := by decide

/-- V77 -/
theorem test_read_too_small : answer (exec (.readParameter 1 0x7B 3) S0) = some (.bufferTooSmall, [], false) := by
  decide

/-- V3 -/
theorem test_codec_decode_command :
    after (fun s => s.response) (exec (.codecDecodeCommand [0x95, 0x12, 0x34, 0x56]) S0) =
      some (some ⟨.ok, [], false, true, false, 0x2A, 0x123456, 0⟩) := by decide

/-- V10 -/
theorem test_codec_decode_command_empty :
    answer (exec (.codecDecodeCommand []) S0) = some (.invalidLength, [], false) := by decide

/-- V13 -/
theorem test_codec_encode_command :
    answer (exec (.codecEncodeCommand false 0xFF 0x7FFFFF) S0) = some (.ok, [0x7F, 0xFF, 0xFF, 0xFF], false) := by
  decide

/-- V20: error bit 0 is bit 6 of byte 1 -/
theorem test_codec_decode_status :
    after (fun s => s.response) (exec (.codecDecodeStatus [0x00, 0x40, 0x00, 0x00]) S0) =
      some (some ⟨.ok, [], false, false, false, 0x01, 0, 0⟩) := by decide

/-- V27 -/
theorem test_codec_encode_status :
    answer (exec (.codecEncodeStatus true false 0x12 0x345) S0) = some (.ok, [0x84, 0x80, 0x03, 0x45], false) := by
  decide

/-- V131 -/
theorem test_reserved_op : answer (exec (.reservedOp 7) S0) = some (.illegalOp, [], false) := by decide

/-- V132: a valid ARM body under a header with bit 4 set arms nothing -/
theorem test_reserved_header_bits :
    after (fun s => (s.pending, s.response.map Resp.code))
      (step (presentNext { Pseudo.arm T 0x02 0 with header := 0x00000010 } S0)) = some (false, some .illegalOp) := by
  decide

/-- V33 -/
theorem test_cmdreg_arm :
    after (fun s => (s.pending, s.latchedCommand, s.status)) (exec (.cmdregArm 0x02 0) S0) =
      some (true, 0x02#8, ⟨true, true, 0x00, 2⟩) := by decide

/-- V35 -/
theorem test_cmdreg_release_fire :
    after (fun s => (s.pending, s.latchedCommand, s.status)) (exec (.cmdregReleaseFire 0 0) (armed 0x02 0 S0)) =
      some (false, 0x02#8, ⟨true, false, 0x00, 4⟩) := by decide

/-- V37: a second release does not fire again -/
theorem test_cmdreg_release_idle :
    after (fun s => (s.pending, s.latchedCommand, s.status))
      (exec (.cmdregReleaseIdle 0 0) { S0 with latchedCommand := 0x02 }) =
      some (false, 0x02#8, ⟨true, false, 0x00, 1⟩) := by decide

/-- V51 -/
theorem test_dispatch_nop :
    after (fun s => (s.dispatchResult, s.backendUp)) (exec (.dispatchNop 0) { S0 with backendUp := false }) =
      some (some ⟨true, false, 0x00, 0⟩, false) := by decide

/-- V52 -/
theorem test_dispatch_local :
    after (fun s => (s.dispatchResult, s.backendCalls)) (exec (.dispatchLocal 0x7F 0) (State.resetOf TLocal)) =
      some (some ⟨true, false, 0x00, 0⟩, []) := by decide

/-- V54: the backend comes up -/
theorem test_dispatch_reboot :
    after (fun s => (s.dispatchResult, s.backendUp, s.backendCalls))
      (exec (.dispatchReboot 0x55)
        { S0 with backendUp := false, shutdownAnswers := [.done], initAnswers := [.ok] }) =
      some (some ⟨true, false, 0x00, 3⟩, true, [.shutdown, .initBackend]) := by decide

/-- V55: Fatal, no response, the status stays BUSY -/
theorem test_dispatch_reboot_fatal :
    after (fun s => (s.fatalOut, s.response, statusImage s, s.pending, s.backendUp))
      (exec (.consumeOutputCmd 0 [0, 0, 0, 0])
        { armed 0x01 0 S0 with shutdownAnswers := [.done], initAnswers := [.fail] }) =
      some (true, none, [0xC0#8, 0x00#8, 0x00#8, 0x02#8], true, true) := by decide

/-- V57 -/
theorem test_dispatch_ping :
    after (fun s => (s.dispatchResult, s.backendCalls)) (exec (.dispatchPing 5) { S0 with backendUp := false }) =
      some (some ⟨true, false, 0x00, 4⟩, []) := by decide

/-- V58 -/
theorem test_dispatch_forward :
    after (fun s => (s.dispatchResult, s.backendCalls))
      (exec (.dispatchForward 0x2A 0x123456) { S0 with executeAnswers := [.pair 0x12 0x345] }) =
      some (some ⟨true, false, 0x12, 0x345⟩, [.execute 0x2A 0x123456]) := by decide

/-- V61, V62: a wide status under both policies -/
theorem test_dispatch_forward_wide :
    after (fun s => s.dispatchResult)
      (exec (.dispatchForward 0x2C 0) { S0 with executeAnswers := [.pair 0x00 0x00400001] }) =
      some (some ⟨true, false, 0x00, 1⟩) ∧
    after (fun s => s.dispatchResult)
      (exec (.dispatchForward 0x2C 0) { State.resetOf { T with wideStatusPolicy := .malformed } with
        executeAnswers := [.pair 0x00 0x00400001] }) =
      some (some ⟨true, false, 0xFF, 5⟩) := by decide

/-! ### The float channel, both modes -/

/-- V102, V103: rounded products -/
theorem test_float_rounds :
    fmul .convertThenMultiply 0x3DCCCCCD 3 = some 0x3E99999A ∧ fmul .singleRounding 0x3DCCCCCD 3 = some 0x3E99999A ∧
      fmul .convertThenMultiply 0x3EAAAAAB 3 = some 0x3F800000 := by decide

/-- V107 to V109: the modes differ -/
theorem test_float_modes_differ :
    fmul .convertThenMultiply 0x40400000 16777219 = some 0x4C400003 ∧
      fmul .singleRounding 0x40400000 16777219 = some 0x4C400002 ∧
      fmul .convertThenMultiply 0x3F800001 16777217 = some 0x4B800001 ∧
      fmul .singleRounding 0x3F800001 16777217 = some 0x4B800002 := by decide

/-- V111 to V116: overflow, subnormals -/
theorem test_float_edges :
    fmul .convertThenMultiply 0x7F7FFFFF 2 = some 0x7F800000 ∧ fmul .singleRounding 0x00400000 2 = some 0x00800000 ∧
      fmul .convertThenMultiply 0x00000001 0xFFFFFFFF = some 0x05000000 ∧
      fmul .singleRounding 0x00800000 0x80000000 = some 0x10000000 := by decide

/-- V117 to V124: special values -/
theorem test_float_specials :
    fmul .convertThenMultiply 0xC0200000 0 = some 0x80000000 ∧ fmul .singleRounding 0x80000000 5 = some 0x80000000 ∧
      fmul .convertThenMultiply 0xFF800000 1 = some 0xFF800000 ∧ fmul .singleRounding 0x7F800000 0 = none ∧
      fmul .convertThenMultiply 0x7F800001 2 = none := by decide

/-- R206: whatever is drawn, the pattern is a quiet NaN -/
theorem test_quietNaN (free : BitVec 23) : isQuietNaN (quietNaN free) = true := by
  simp only [isQuietNaN, beq_iff_eq]
  apply BitVec.eq_of_getLsbD_eq
  intro i hi
  simp only [quietNaN, BitVec.getLsbD_extractLsb', BitVec.getLsbD_append]
  rcases (by omega : i = 0 ∨ i = 1 ∨ i = 2 ∨ i = 3 ∨ i = 4 ∨ i = 5 ∨ i = 6 ∨ i = 7 ∨ i = 8) with
    rfl | rfl | rfl | rfl | rfl | rfl | rfl | rfl | rfl <;> simp

/-! ### Reset, the port -/

/-- R37 -/
theorem test_reset :
    (S0.pending, S0.statusIsFresh, S0.params, S0.sigOutput, S0.backendUp, S0.fatal) =
      (false, false, [none, none, none], none, true, false) := by decide

/-- V142: while fatal, no response and no change -/
theorem test_fatal_port :
    after (fun s => (s.response, s.fatalOut, s.pending))
      (step (presentNext (Pseudo.status T) { armed 0x01 0 S0 with fatal := true })) = some (none, true, true) := by
  decide

/-! ### Witnesses: a concrete state and operands that meet the hypotheses of each statement -/

/-- The port of `s` with one request presented. -/
def serving (r : Req) (s : State) : State := presentNext r s

/-- A request in progress, blocked in a backend call. -/
def blocked : State := { armed 0x2A 0 S0 with outstanding := some (.execute 0x2A 0) }

/-- Fatal, as after P4. -/
def fatal : State := { armed 0x01 0x55 S0 with fatal := true }

/-- Armed with REBOOT, and what the backend will answer. -/
def rebooting (sa : List ShutdownAnswer) (ia : List InitAnswer) : State :=
  { armed 0x01 0 S0 with shutdownAnswers := sa, initAnswers := ia }

/-- A status whose evaluation was a fire of PING. -/
def answered : State := { S0 with status := ⟨true, false, 0, 4⟩, statusIsFresh := true, latchedCommand := 0x02 }

theorem presented {s : State} {r : Req} (hc : s.cfg.wf = true) (ha : s.accepting)
    (hr : unrepresentable s.cfg r = none) : Presented (serving r s) r s.inputs := ⟨hc, ha, rfl, hr⟩

theorem S0_accepting : S0.accepting := ⟨rfl, rfl⟩

theorem armed_accepting (c : BitVec 8) (p : BitVec 23) : (armed c p S0).accepting := ⟨rfl, rfl⟩

/-- EncodeThenDecodeGivesBackTheInstruction: each format, operands at the ends of their ranges, both values of `pending`. -/
theorem witness_encode_then_decode :
    T.wf = true ∧ TLocal.wf = true ∧
    (Instr.consumeOutputOther (2 ^ 32 - 1) (2 ^ 16 - 1) [0xFF]).wf T = true ∧
    (Instr.readParameter 0 (2 ^ 16 - 1) 0xFFFF).wf T = true ∧ (Instr.reservedHeaderBits 1 0xF).wf T = true ∧
    (Instr.dispatchLocal 0x7F 0x7FFFFF).wf TLocal = true ∧ (Instr.dispatchForward 0xFF 0).wf TLocal = true ∧
    (Instr.cmdregReleaseFire 0xFF 0x7FFFFF).selectedAt true = true ∧
    (Instr.cmdregReleaseIdle 0xFF 0x7FFFFF).selectedAt false = true := by decide

/-- CodecRoundTrips -/
theorem witness_codec : ([0x95, 0x12, 0x34, 0x56] : Bytes).length = 4 := rfl

/-- ReservedHeadersAreIllegalOps: each way a header is reserved, at the ends of both ranges. -/
theorem witness_reserved :
    Presented (serving (Req.ofHeader 0x00000010) S0) (Req.ofHeader 0x00000010) [] ∧
    headerReserved 0x00000010 ≠ 0 ∧ headerReserved 0x80000001 ≠ 0 ∧ headerReserved 0x0000000F = 0 ∧
    8 ≤ (headerOp 0x00000008).toNat ∧ 8 ≤ (headerOp 0x0000000F).toNat ∧ ¬ 8 ≤ (headerOp 0x00000007).toNat :=
  ⟨presented (by decide) S0_accepting (by decide), by decide⟩

/-- CyclicRequestsRouteBySubmodule: both ops, the three routes. -/
theorem witness_routes :
    T.wf = true ∧ unrepresentable T (consumeReq 1 0xFFFF []) = none ∧ unrepresentable T (produceReq 0xFFFFFFFF 0) = none ∧
    headerReserved (consumeReq 1 0 []).header = 0 ∧ headerOp (consumeReq 1 0 []).header = 0 ∧
    headerOp (produceReq 2 0).header = 1 ∧ (consumeReq 1 0 []).submoduleId = T.cmdSub ∧
    (produceReq 2 0).submoduleId = T.sigSub ∧ 0 ≠ T.cmdSub ∧ 0 ≠ T.sigSub ∧ 3 ≠ T.cmdSub ∧ 3 ≠ T.sigSub := by decide

/-- UnnamedFieldsAreIgnored: for each op, two requests that differ in a field it does not name. -/
theorem witness_unnamed (op : Nat) (r : Req) :
    (op ≠ 2 → op ≠ 3 → AgreeOnNamed op r { r with index := 0xFFFF }) ∧
      (op = 2 ∨ op = 3 → AgreeOnNamed op r { r with subslot := 0xFFFF }) := by
  constructor
  · intro h2 h3
    unfold AgreeOnNamed
    split <;> simp_all
  · rintro (rfl | rfl) <;> simp [AgreeOnNamed]

/-- The port carries both requests, and they differ. -/
theorem witness_unnamed_representable :
    unrepresentable T { Req.ofHeader 0x00000001 with index := 0xFFFF } = none ∧
    unrepresentable T { Req.ofHeader 0x00000003 with subslot := 0xFFFF } = none ∧
    Req.ofHeader 0x00000001 ≠ { Req.ofHeader 0x00000001 with index := 0xFFFF } ∧
    Req.ofHeader 0x00000003 ≠ { Req.ofHeader 0x00000003 with subslot := 0xFFFF } := by decide

/-- UnrepresentableRequestsAreRefused: a request the port carries and one it does not. -/
theorem witness_unrepresentable :
    (serving (Pseudo.status T) S0).cfg.wf = true ∧ (serving (Pseudo.status T) S0).accepting ∧
    (serving (Pseudo.status T) S0).inputs = [.request (Pseudo.status T)] ∧
    ¬ (({ Req.ofHeader 0 with len := 1 } : Req).data.length = ({ Req.ofHeader 0 with len := 1 } : Req).len.toNat) :=
  ⟨by decide, S0_accepting, rfl, by decide⟩

/-- StepRunsTheDecodedRequest, AcceptedRequestIsAnsweredOrStopsThePort, QualityIsGoodExactlyOnSuccessfulProduce. -/
theorem witness_presented :
    Presented (serving (Pseudo.status T) S0) (Pseudo.status T) [] ∧
    decode T false (.req (Pseudo.status T)) = .ok (.produceInputCmd 0) ∧
    answer (step (serving (Pseudo.status T) S0)) = some (.ok, [0x80, 0x00, 0x00, 0x01], true) :=
  ⟨presented (by decide) S0_accepting (by decide), by decide, by decide⟩

/-- AcceptedRequestIsAnsweredOrStopsThePort: its three outcomes each happen. -/
theorem witness_three_outcomes :
    after (fun t => (t.response.isSome, t.fatal, t.outstanding.isSome))
      (step (serving (Pseudo.release T) (armed 0x02 0 S0))) = some (true, false, false) ∧
    after (fun t => (t.response.isSome, t.fatal, t.outstanding.isSome))
      (step (serving (Pseudo.release T) (rebooting [.done] [.fail]))) = some (false, true, false) ∧
    after (fun t => (t.response.isSome, t.fatal, t.outstanding.isSome))
      (step (serving (Pseudo.release T) (rebooting [.done] [.never]))) = some (false, false, true) := by decide

/-- FatalPortAcceptsNoRequest -/
theorem witness_fatal_port :
    (serving (Pseudo.status T) fatal).cfg.wf = true ∧ (serving (Pseudo.status T) fatal).fatal = true ∧
    (serving (Pseudo.status T) fatal).outstanding = none ∧
    (serving (Pseudo.status T) fatal).inputs = [.request (Pseudo.status T)] := by decide

/-- OverlappingRequestIsRefused -/
theorem witness_overlap :
    (serving (Pseudo.status T) blocked).cfg.wf = true ∧
    (serving (Pseudo.status T) blocked).outstanding = some (.execute 0x2A 0) ∧
    (serving (Pseudo.status T) blocked).inputs = [.request (Pseudo.status T)] := by decide

/-- ResetRestoresTheInitialMode: from a fatal state and from a blocked one. -/
theorem witness_reset :
    ({ fatal with inputs := [.reset] } : State).cfg.wf = true ∧
    ({ fatal with inputs := [.reset] } : State).inputs = [.reset] ∧
    ({ blocked with inputs := [.reset, .reset] } : State).cfg.wf = true ∧
    ({ blocked with inputs := [.reset, .reset] } : State).inputs = [.reset, .reset] := by decide

/-- IllFormedConfigurationsAreRefused: both clauses. -/
theorem witness_configurations :
    WellFormedCfg T ∧ CfgWidths T ∧ ¬ WellFormedCfg { T with sigSub := 1 } :=
  ⟨⟨by decide, by decide, by decide, by decide, by decide, by decide, by decide⟩, ⟨by decide, by decide, by decide⟩,
    fun h => h.submodules rfl⟩

/-- FireCommitsTheDispatchedStatus: both clauses. -/
theorem witness_fire :
    decode T true (.latched (latchWord (armed 0x02 5 S0))) = .ok (.dispatchPing 5) ∧
    after (fun t => t.dispatchResult) (exec (.dispatchPing 5) (armed 0x02 5 S0)) = some (some ⟨true, false, 0, 4⟩) ∧
    decode T true (.latched (latchWord (rebooting [.done] [.fail]))) = .ok (.dispatchReboot 0) ∧
    after (fun t => t.dispatchResult) (exec (.dispatchReboot 0) (rebooting [.done] [.fail])) = some none := by decide

/-- ConsumeEvaluatesItsImage: an image that completes and one that raises Fatal. -/
theorem witness_consume :
    (armed 0x02 0 S0).accepting ∧ (rebooting [.done] [.fail]).accepting ∧
    decode T true (.cmdreg [0x00, 0x00, 0x00, 0x00]) = .ok (.cmdregReleaseFire 0 0) ∧
    after (fun t => (t.fatal, t.outstanding)) (exec (.cmdregReleaseFire 0 0) (armed 0x02 0 S0)) = some (false, none) ∧
    after (fun t => (t.fatal, t.outstanding)) (exec (.cmdregReleaseFire 0 0) (rebooting [.done] [.fail])) =
      some (true, none) :=
  ⟨armed_accepting _ _, ⟨rfl, rfl⟩, by decide, by decide, by decide⟩

/-- CommandConsumesCompleteWithoutTheBackend: each clause. -/
theorem witness_consume_completes :
    S0.cfg.wf = true ∧ S0.accepting ∧ S0.pending = false ∧ (armed 0x02 0 S0).accepting ∧
    (armed 0x02 0 S0).pending = true ∧ (armed 0x02 0 S0).latchedCommand = T.cmdPing ∧
    (armed 0x00 0 S0).latchedCommand = T.cmdNop ∧
    (armed 0x7F 0 (State.resetOf TLocal)).latchedCommand ∈ TLocal.localUndefinedCodes ∧
    (0xFF#8 ≠ T.cmdNop ∧ 0xFF#8 ∉ T.localUndefinedCodes ∧ 0xFF#8 ≠ T.cmdReboot ∧ 0xFF#8 ≠ T.cmdPing) ∧
    ({ armed 0xFF 0 S0 with backendUp := false } : State).backendUp = false :=
  ⟨by decide, S0_accepting, rfl, ⟨rfl, rfl⟩, by decide⟩

/-- UnsupportedConsumesAndNoInput: lengths beside the right ones, and none. -/
theorem witness_lengths :
    ([0x81, 0x00, 0x00] : Bytes).length ≠ 4 ∧ ([] : Bytes).length ≠ 4 ∧ ([0, 0, 0, 0, 0, 0, 0] : Bytes).length ≠ 8 := by
  decide

/-- LastAssertedImageIsTheOneThatFires: no earlier image, and two. -/
theorem witness_last_asserted :
    S0.cfg.wf = true ∧ S0.accepting ∧
    ({ S0 with inputs := [.request (Pseudo.arm T 0x2A 1), .request (Pseudo.arm T 0x01 2), .request (Pseudo.arm T 0x02 3),
        .request (Pseudo.release T)] } : State).inputs =
      ([(0x2A#8, 1#23), (0x01#8, 2#23)] ++ [(0x02#8, 3#23)]).map (fun x => .request (Pseudo.arm T x.1 x.2)) ++
        [.request (Pseudo.release T)] ∧
    ({ S0 with inputs := [.request (Pseudo.arm T 0x02 3), .request (Pseudo.release T)] } : State).inputs =
      (([] : List (BitVec 8 × BitVec 23)) ++ [(0x02#8, 3#23)]).map (fun x => .request (Pseudo.arm T x.1 x.2)) ++
        [.request (Pseudo.release T)] :=
  ⟨by decide, S0_accepting, rfl, rfl⟩

/-- CommandCodesSelectTheirClass: each class. -/
theorem witness_classes :
    TLocal.wf = true ∧ 0x00#8 = TLocal.cmdNop ∧ 0x7F#8 ∈ TLocal.localUndefinedCodes ∧ 0x01#8 = TLocal.cmdReboot ∧
    0x02#8 = TLocal.cmdPing ∧ 0xFF#8 ≠ TLocal.cmdNop ∧ 0xFF#8 ∉ TLocal.localUndefinedCodes ∧ 0xFF#8 ≠ TLocal.cmdReboot ∧
    0xFF#8 ≠ TLocal.cmdPing := by decide

/-- RebootFollowsTheBackendsAnswers: each clause. -/
theorem witness_reboot :
    (rebooting [.done] [.ok]).shutdownAnswers = .done :: [] ∧ (rebooting [.done] [.ok]).initAnswers = .ok :: [] ∧
    (rebooting [.done] [.fail]).initAnswers = .fail :: [] ∧ (rebooting [.done] [.never]).initAnswers = .never :: [] ∧
    (rebooting [.never] []).shutdownAnswers = .never :: [] := by decide

/-- ForwardPassesCommandAndReplyThrough: each clause, at both sides of 2^22. -/
theorem witness_forward :
    ({ S0 with executeAnswers := [.pair 0xFF 0x3FFFFF] } : State).executeAnswers = .pair 0xFF 0x3FFFFF :: [] ∧
    S0.backendUp = true ∧ (0x3FFFFF#32).toNat < 2 ^ 22 ∧ 2 ^ 22 ≤ (0x400000#32).toNat ∧
    T.wideStatusPolicy = .truncate ∧ ({ T with wideStatusPolicy := .malformed } : Cfg).wideStatusPolicy = .malformed ∧
    ({ S0 with executeAnswers := [.never, .malformed] } : State).executeAnswers = .never :: [.malformed] := by decide

/-- ForwardWithBackendDownIsInternalError -/
theorem witness_backend_down : (State.resetOf { T with backendUpAtReset := false }).backendUp = false := rfl

/-- DispatchResultsAreOperationalAndNotBusy, DispatchLeavesExecutionStateAlone, BackendIsCalledOnlyAsTheRulesSay. -/
theorem witness_dispatch :
    (Instr.dispatchPing 5).format = .latched ∧ S0.dispatchResult = none ∧
    after (fun t => t.dispatchResult) (exec (.dispatchPing 5) S0) = some (some ⟨true, false, 0, 4⟩) := by decide

/-- WriteParameterStoresVerbatim and ReadParameterReturnsTheEntry: each clause, with sizes beside the right one. -/
theorem witness_parameters :
    S0.cfg.wf = true ∧ (∀ d ∈ S0.cfg.descriptors, d.key ≠ (2, 0x7B)) ∧
    S0.cfg.descriptors[1]? = some ⟨1, 0x7C, 2, "config_b"⟩ ∧ (⟨1, 0x7C, 2, "config_b"⟩ : Descriptor).key = (1, 0x7C) ∧
    ([0xAB] : Bytes).length ≠ 2 ∧ ([0xAB, 0xCD] : Bytes).length = 2 ∧ (1#16).toNat < 2 ∧ 2 ≤ (2#16).toNat ∧
    ({ S0 with params := [none, some [0xAB, 0xCD], none] } : State).params[1]? = some (some [0xAB#8, 0xCD#8]) ∧
    S0.params[1]? = some none := by decide

/-- FailedWriteLeavesStateUnchanged -/
theorem witness_failed_write : RespCode.lengthMismatch ≠ .ok := by decide

/-- ReadReturnsTheLastWriteAfterAnyRequests: with two requests between, one of them a write of another entry. -/
theorem witness_read_after_write :
    ∃ t u : State, Memory.wf S0 = true ∧ S0.cfg.wf = true ∧
      S0.cfg.descriptors[1]? = some ⟨1, 0x7C, 2, "config_b"⟩ ∧
      exec (.writeParameter 1 0x7C [0xAB, 0xCD])
        { S0 with inputs := [.request (Pseudo.status T), .request (Pseudo.setGain T 2)] } = .next t ∧
      Host.Core.run core 2 t = .next u ∧
      (∀ e ∈ t.inputs.take 2, e ≠ .reset ∧ ¬ WritesEntry T 1 e) ∧ 2 ≤ (2#16).toNat := by
  refine ⟨_, _, by decide, by decide, by decide, rfl, rfl, ?_, by decide⟩
  have hs : decode T false (.req (Pseudo.status T)) = .ok (.produceInputCmd 0) := by decide
  have hg : decode T false (.req (Pseudo.setGain T 2)) = .ok (.writeParameter 2 0x7D [0, 0, 0, 2]) := by decide
  have hl : lookup T 2 0x7D = some 2 := by decide
  intro e he
  replace he : e ∈ [.request (Pseudo.status T), .request (Pseudo.setGain T 2)] := he
  simp only [List.mem_cons, List.not_mem_nil, or_false] at he
  rcases he with rfl | rfl <;> refine ⟨by simp, ?_⟩ <;> rintro ⟨r, sub, index, data, he, hd, hk, _⟩ <;>
    cases he
  · rw [hs] at hd; cases hd
  · rw [hg] at hd; cases hd; rw [hl] at hk; cases hk

/-- SignalOutputIsStoredVerbatim -/
theorem witness_signal_output : ([0, 0, 0, 3, 0x40, 0x20, 0, 0] : Bytes).length = 8 := rfl

/-- SignalInputMultipliesBothChannels, IntegerChannelIsTheLowWordOfTheProduct, RepeatedSignalInputIsIdempotent. -/
theorem witness_signal_input :
    T.wf = true ∧ T.descriptors[2]? = some ⟨2, 0x7D, 4, "gain"⟩ ∧
    (⟨2, 0x7D, 4, "gain"⟩ : Descriptor).key = T.gainKey ∧
    (signals (be32bytes 0xFFFFFFFF) (be32bytes 0xFFFFFFFF ++ be32bytes 0x3F800000) S0).params[2]? =
      some (some (be32bytes 0xFFFFFFFF)) ∧
    (signals (be32bytes 0xFFFFFFFF) (be32bytes 0xFFFFFFFF ++ be32bytes 0x3F800000) S0).sigOutput =
      some (be32bytes 0xFFFFFFFF ++ be32bytes 0x3F800000) ∧
    fmul T.fmulMode 0x3F800000 0xFFFFFFFF = some 0x4F800000 := by decide

/-- RepeatedSignalInputIsIdempotent: its first signal input completes. -/
theorem witness_repeated :
    ∃ t, exec (.produceInputSig 0) (signals (be32bytes 2) (be32bytes 3 ++ be32bytes 0x40200000) S0) = .next t := ⟨_, rfl⟩

/-- NaNProductIsSomeQuietNaN -/
theorem witness_nan_product :
    (signals (be32bytes 0) (be32bytes 3 ++ be32bytes 0x7F800000) S0).params[2]? = some (some (be32bytes 0)) ∧
    (signals (be32bytes 0) (be32bytes 3 ++ be32bytes 0x7F800000) S0).sigOutput =
      some (be32bytes 3 ++ be32bytes 0x7F800000) ∧
    fmul T.fmulMode 0x7F800000 0 = none := by decide

/-- GainAndOutputReachTheNextInput -/
theorem witness_gain_and_output :
    S0.cfg.wf = true ∧ S0.accepting ∧ Memory.wf S0 = true ∧
    ({ S0 with inputs := [.request (Pseudo.setGain T 2), .request (Pseudo.sigOut T 3 0x40200000),
      .request (Pseudo.sigIn T)] } : State).inputs =
      [.request (Pseudo.setGain T 2), .request (Pseudo.sigOut T 3 0x40200000), .request (Pseudo.sigIn T)] ∧
    fmul T.fmulMode 0x40200000 2 = some 0x40A00000 :=
  ⟨by decide, S0_accepting, by decide, rfl, by decide⟩

/-- FloatProductSpecialValues: each clause. -/
theorem witness_float_specials :
    isNaN 0x7F800001 = true ∧ isNaN 0xFFFFFFFF = true ∧ isNaN 0x7F800000 = false ∧
    (0xC0200000#32).extractLsb' 23 8 ≠ 0xFF#8 ∧ (0x7F7FFFFF#32).extractLsb' 23 8 ≠ 0xFF#8 ∧ (1#32) ≠ 0 := by decide

/-- RoundingModesDifferOnlyOnInexactGains: the largest odd gain, and a large even one. -/
theorem witness_exact_gains :
    (∃ m k, m < 2 ^ 24 ∧ (0x00FFFFFF#32).toNat = m * 2 ^ k) ∧ (∃ m k, m < 2 ^ 24 ∧ (0xFFFFFF00#32).toNat = m * 2 ^ k) ∧
    (∃ m k, m < 2 ^ 24 ∧ (0#32).toNat = m * 2 ^ k) :=
  ⟨⟨0xFFFFFF, 0, by decide⟩, ⟨0xFFFFFF, 8, by decide⟩, ⟨0, 0, by decide⟩⟩

/-- GainOneReturnsTheFloatUnchanged: an infinity is no NaN. -/
theorem witness_gain_one : isNaN 0xFF800000 = false := by decide

/-- RoundingIsToNearestTiesToEven: both ties. -/
theorem witness_ties :
    2 * 5 = 2 * (roundShift 5 1 * 2 ^ 1) + 2 ^ 1 ∧ 2 * (roundShift 3 1 * 2 ^ 1) = 2 * 3 + 2 ^ 1 := by decide

/-- RoundedPatternsHaveTheirValue: each clause, at the ends of the range. -/
theorem witness_rounded :
    ((quantum 0xFFFFFF 104 + 149).toNat * 2 ^ 23 + unitsOf 0xFFFFFF 104 (quantum 0xFFFFFF 104) < infBits ∧
      0 < unitsOf 0xFFFFFF 104 (quantum 0xFFFFFF 104)) ∧
    infBits ≤ (quantum 1 128 + 149).toNat * 2 ^ 23 + unitsOf 1 128 (quantum 1 128) ∧
    unitsOf 1 (-150) (quantum 1 (-150)) = 0 := by decide

/-- StatusInputReportsTheStatusOrReady: both clauses. -/
theorem witness_status : answered.statusIsFresh = true ∧ S0.statusIsFresh = false := by decide

/-- EveryStepKeepsTheInvariant: reset meets it, and so does an armed state; a step from each completes. -/
theorem witness_invariant :
    Inv S0 ∧ Inv (armed 0x02 0 S0) ∧ (∃ t, step S0 = .next t) ∧
      ∃ t, step (serving (Pseudo.release T) (armed 0x02 0 S0)) = .next t :=
  ⟨⟨by decide, by decide, by decide, by decide, by decide, by decide, by decide, by decide, by decide, by decide,
      by simp [S0, State.reset, State.resetOf], by simp [S0, State.reset, State.resetOf]⟩,
    ⟨by decide, by decide, by decide, by decide, by decide, by decide, by decide, by decide, by decide, by decide,
      by simp [armed, S0, State.reset, State.resetOf], by simp [armed, S0, State.reset, State.resetOf]⟩,
    ⟨_, rfl⟩, ⟨_, rfl⟩⟩

/-- RejectedRequestsChangeNoState -/
theorem witness_rejected :
    Presented (serving (produceReq 3 0) S0) (produceReq 3 0) [] ∧
    answer (step (serving (produceReq 3 0) S0)) = some (.none, [], false) ∧ RespCode.none ≠ .ok :=
  ⟨presented (by decide) S0_accepting (by decide), by decide, by decide⟩

/-- OnlyCommandConsumesEvaluateTheStateMachine: another request, and a command consume of the wrong length. -/
theorem witness_no_evaluation :
    Presented (serving (Pseudo.sigIn T) S0) (Pseudo.sigIn T) [] ∧
    decode T false (.req (Pseudo.sigIn T)) = .ok (.produceInputSig 0) ∧
    decode T false (.req (consumeReq 1 0 [0x81, 0x00, 0x00])) = .ok (.consumeOutputCmd 0 [0x81, 0x00, 0x00]) ∧
    ([0x81, 0x00, 0x00] : Bytes).length ≠ 4 ∧ ∃ t, step (serving (Pseudo.sigIn T) S0) = .next t :=
  ⟨presented (by decide) S0_accepting (by decide), by decide, by decide, by decide, ⟨_, rfl⟩⟩

/-- StoredBuffersHaveOneWriterEach: a status read is no writer. -/
theorem witness_no_writer :
    (∀ sub index data, Instr.produceInputCmd 0 ≠ .writeParameter sub index data) ∧
    (∀ ss data, Instr.produceInputCmd 0 ≠ .consumeOutputSig ss data) ∧ ∀ ss, Instr.produceInputCmd 0 ≠ .produceInputSig ss := by
  simp

/-- BackendUpChangesOnlyAtResetOrReboot: both clauses happen. -/
theorem witness_backend_up :
    after (fun t => t.backendUp) (step { S0 with backendUp := false, inputs := [.reset] }) = some true ∧
    after (fun t => t.backendUp)
      (step (serving (Pseudo.release T) { rebooting [.done] [.ok] with backendUp := false })) = some true := by decide

/-- FatalComesOnlyFromRebootAndStays: Fatal is raised, and left by a reset. -/
theorem witness_fatal :
    after (fun t => t.fatal) (step (serving (Pseudo.release T) (rebooting [.done] [.fail]))) = some true ∧
    after (fun t => t.fatal) (step { fatal with inputs := [.reset] }) = some false := by decide

end Sys2Proof.Tests
end

namespace Sys2Proof.Machine

/-! ### The configuration check, condition by condition (R8) -/

/-- R8 condition 1. -/
theorem builtinsDistinct_iff {c : Cfg} :
    c.builtinsDistinct = true ↔ c.cmdNop ≠ c.cmdReboot ∧ c.cmdNop ≠ c.cmdPing ∧ c.cmdReboot ≠ c.cmdPing := by
  simp [Cfg.builtinsDistinct, and_assoc]

/-- R8 condition 2: the check asks it of each built-in code, the rule of each local code. -/
theorem localExcludesBuiltins_iff {c : Cfg} :
    c.localExcludesBuiltins = true ↔
      ∀ code ∈ c.localUndefinedCodes, code ≠ c.cmdNop ∧ code ≠ c.cmdReboot ∧ code ≠ c.cmdPing := by
  simp only [Cfg.localExcludesBuiltins, Bool.and_eq_true, Bool.not_eq_true', List.contains_eq_mem, decide_eq_false_iff_not]
  constructor
  · rintro ⟨⟨nop, reboot⟩, ping⟩ code mem
    exact ⟨ne_of_mem_of_not_mem mem nop, ne_of_mem_of_not_mem mem reboot, ne_of_mem_of_not_mem mem ping⟩
  · intro h
    exact ⟨⟨fun mem => (h _ mem).1 rfl, fun mem => (h _ mem).2.1 rfl⟩, fun mem => (h _ mem).2.2 rfl⟩

/-- With distinct keys, the entries that have the key of an entry are that entry alone. -/
theorem filter_key_eq_singleton {l : List Descriptor} {d : Descriptor} (distinct : (l.map Descriptor.key).Nodup)
    (mem : d ∈ l) : l.filter (fun e => e.key == d.key) = [d] := by
  obtain ⟨before, after, rfl⟩ := List.append_of_mem mem
  have others : ∀ e ∈ before ++ after, e.key ≠ d.key := by
    intro e he same
    rw [List.map_append, List.map_cons, List.nodup_middle, List.nodup_cons, ← List.map_append] at distinct
    exact distinct.1 (same ▸ List.mem_map_of_mem he)
  have hbefore : before.filter (fun e => e.key == d.key) = [] := by
    simpa using fun e he => others e (List.mem_append_left _ he)
  have hafter : after.filter (fun e => e.key == d.key) = [] := by
    simpa using fun e he => others e (List.mem_append_right _ he)
  simp [List.filter_append, hbefore, hafter]

/-- R8 condition 7: under condition 5, `GAIN_KEY` is the key of exactly one entry as soon as it is the key of one. -/
theorem gainIsFourBytes_iff {c : Cfg} (distinct : (c.descriptors.map Descriptor.key).Nodup) :
    c.gainIsFourBytes = true ↔ ∃ d ∈ c.descriptors, d.key = c.gainKey ∧ d.expectedLengthBytes = 4 := by
  rw [Cfg.gainIsFourBytes, beq_iff_eq]
  constructor
  · intro h
    have four : 4 ∈ (c.descriptors.filter fun d => d.key == c.gainKey).map Descriptor.expectedLengthBytes := by simp [h]
    obtain ⟨d, hd, len⟩ := List.mem_map.1 four
    obtain ⟨mem, key⟩ := List.mem_filter.1 hd
    exact ⟨d, mem, beq_iff_eq.1 key, len⟩
  · rintro ⟨d, mem, key, len⟩
    rw [← key, filter_key_eq_singleton distinct mem, List.map_singleton, len]

/-- The widths of R7's table (log 17). -/
theorem widthsFit_iff {c : Cfg} : c.widthsFit = true ↔ CfgWidths c := by
  simp only [Cfg.widthsFit, Bool.and_eq_true, decide_eq_true_eq, List.all_eq_true]
  exact ⟨fun ⟨⟨cmd, sig⟩, keys⟩ => ⟨cmd, sig, keys⟩, fun ⟨cmd, sig, keys⟩ => ⟨⟨cmd, sig⟩, keys⟩⟩

/-- The check of a configuration is R8's seven conditions and R7's widths. -/
theorem cfg_wf_iff {c : Cfg} : c.wf = true ↔ WellFormedCfg c ∧ CfgWidths c := by
  simp only [Cfg.wf, Bool.and_eq_true, builtinsDistinct_iff, localExcludesBuiltins_iff, widthsFit_iff,
    Cfg.submodulesDistinct, bne_iff_ne, Cfg.threeDescriptors, beq_iff_eq, Cfg.keysDistinct, Cfg.lengthsInRange,
    List.all_eq_true, decide_eq_true_eq]
  constructor
  · rintro ⟨⟨⟨⟨⟨⟨⟨builtins, locals⟩, submodules⟩, three⟩, keys⟩, lengths⟩, gain⟩, widths⟩
    exact ⟨⟨builtins, locals, submodules, three, keys, lengths, (gainIsFourBytes_iff keys).1 gain⟩, widths⟩
  · rintro ⟨⟨builtins, locals, submodules, three, keys, lengths, gain⟩, widths⟩
    exact ⟨⟨⟨⟨⟨⟨⟨builtins, locals⟩, submodules⟩, three⟩, keys⟩, lengths⟩, (gainIsFourBytes_iff keys).2 gain⟩,
      widths⟩

/-! ### What the port refuses -/

/-- An accepted request is refused only when the port cannot carry it. -/
theorem runRequest_refused {r : Req} {s : State} {why : Refusal} (h : runRequest r s = .refused why) :
    ∃ e, why = .unrepresentableRequest e := by
  unfold runRequest at h
  split at h
  · cases h
    exact ⟨_, rfl⟩
  next i decoded =>
    obtain ⟨t, completes, _⟩ := exec_request (decodeReq_format decoded) (beginRequest s)
    rw [completes] at h
    cases h

/-- The port refuses an event only as an overlapping request (R76) or one it cannot carry (D29). -/
theorem takeEvent_refused {s : State} {why : Refusal} (h : takeEvent s = .refused why) :
    why = .overlappingRequest ∨ ∃ e, why = .unrepresentableRequest e := by
  unfold takeEvent at h
  split at h
  · cases h
  · cases h
  · unfold presentRequest at h
    split at h
    · cases h
      exact .inl rfl
    · split at h
      · cases h
      · exact .inr (runRequest_refused h)

/-- `step` refuses the configuration exactly when its check fails (R8). -/
theorem step_refused_illFormed_iff {s : State} : step s = .refused .illFormedConfiguration ↔ s.cfg.wf = false := by
  unfold step
  split
  next wf =>
    rw [wf]
    refine iff_of_false (fun h => ?_) nofun
    obtain overlap | ⟨e, unrepresentable⟩ := takeEvent_refused h
    · cases overlap
    · cases unrepresentable
  next ill => exact iff_of_true rfl (Bool.eq_false_of_not_eq_true ill)

/-- Settles O15: the check that `step` makes is R8's conditions with the widths, and nothing behind it refuses a
configuration. -/
theorem illFormedConfigurationsAreRefused : Obligations.IllFormedConfigurationsAreRefused := by
  intro s
  rw [step_refused_illFormed_iff, Ne, step_refused_illFormed_iff, Bool.not_eq_false, ← Bool.not_eq_true, cfg_wf_iff]
  exact ⟨fun ill wf => ill wf.1, And.intro⟩

end Sys2Proof.Machine


namespace Sys2Proof.Machine

/-! ### The wire images of the registers (R82, R84) -/

/-- The field bits of one wire byte: bits that cross a field boundary are the low bits of the upper field, then the high
bits of the lower one. -/
theorem extractLsb'_append_across {v w start high low : Nat} {hi : BitVec v} {lo : BitVec w} (ends : start + low = w) :
    (hi ++ lo).extractLsb' start (high + low) = hi.extractLsb' 0 high ++ lo.extractLsb' start low := by
  have upper : (hi ++ lo).extractLsb' w high = hi.extractLsb' 0 high := by
    rw [BitVec.extractLsb'_append_eq_of_le (Nat.le_refl w), Nat.sub_self]
  have lower : (hi ++ lo).extractLsb' start low = lo.extractLsb' start low :=
    BitVec.extractLsb'_append_eq_of_add_le ends.le
  rw [← upper, ← lower, BitVec.extractLsb'_append_extractLsb'_eq_extractLsb' ends.symm]

/-- R82: the wire bytes of a command register in its field bits. -/
theorem encodeCommand_eq_fieldBits (e : Bool) (c : BitVec 8) (p : BitVec 23) :
    encodeCommand ⟨e, c, p⟩ =
      [BitVec.ofBool e ++ c.extractLsb' 1 7, c.extractLsb' 0 1 ++ p.extractLsb' 16 7, p.extractLsb' 8 8,
        p.extractLsb' 0 8] := by
  have b0 : (BitVec.ofBool e ++ c ++ p).extractLsb' 24 8 = BitVec.ofBool e ++ c.extractLsb' 1 7 := by
    rw [BitVec.extractLsb'_append_eq_of_le (by decide), extractLsb'_append_across (high := 1) (low := 7) rfl,
      BitVec.extractLsb'_eq_self]
  have b1 : (BitVec.ofBool e ++ c ++ p).extractLsb' 16 8 = c.extractLsb' 0 1 ++ p.extractLsb' 16 7 := by
    rw [extractLsb'_append_across (high := 1) (low := 7) rfl, BitVec.extractLsb'_append_eq_of_add_le (by decide)]
  have b2 : (BitVec.ofBool e ++ c ++ p).extractLsb' 8 8 = p.extractLsb' 8 8 :=
    BitVec.extractLsb'_append_eq_of_add_le (by decide)
  have b3 : (BitVec.ofBool e ++ c ++ p).extractLsb' 0 8 = p.extractLsb' 0 8 :=
    BitVec.extractLsb'_append_eq_of_add_le (by decide)
  rw [← b0, ← b1, ← b2, ← b3]
  rfl

/-- R84: the wire bytes of a status register in its field bits. -/
theorem encodeStatus_eq_fieldBits (o b : Bool) (e : BitVec 8) (st : BitVec 22) :
    encodeStatus ⟨o, b, e, st⟩ =
      [BitVec.ofBool o ++ BitVec.ofBool b ++ e.extractLsb' 2 6,
        e.extractLsb' 1 1 ++ e.extractLsb' 0 1 ++ st.extractLsb' 16 6, st.extractLsb' 8 8, st.extractLsb' 0 8] := by
  have b0 : (BitVec.ofBool o ++ BitVec.ofBool b ++ e ++ st).extractLsb' 24 8 =
      BitVec.ofBool o ++ BitVec.ofBool b ++ e.extractLsb' 2 6 := by
    rw [BitVec.extractLsb'_append_eq_of_le (by decide), extractLsb'_append_across (high := 2) (low := 6) rfl,
      BitVec.extractLsb'_eq_self]
  have b1 : (BitVec.ofBool o ++ BitVec.ofBool b ++ e ++ st).extractLsb' 16 8 =
      e.extractLsb' 1 1 ++ e.extractLsb' 0 1 ++ st.extractLsb' 16 6 := by
    have errorLow : e.extractLsb' 1 1 ++ e.extractLsb' 0 1 = e.extractLsb' 0 2 :=
      BitVec.extractLsb'_append_extractLsb'_eq_extractLsb' rfl
    rw [extractLsb'_append_across (high := 2) (low := 6) rfl, BitVec.extractLsb'_append_eq_of_add_le (by decide),
      errorLow]
  have b2 : (BitVec.ofBool o ++ BitVec.ofBool b ++ e ++ st).extractLsb' 8 8 = st.extractLsb' 8 8 :=
    BitVec.extractLsb'_append_eq_of_add_le (by decide)
  have b3 : (BitVec.ofBool o ++ BitVec.ofBool b ++ e ++ st).extractLsb' 0 8 = st.extractLsb' 0 8 :=
    BitVec.extractLsb'_append_eq_of_add_le (by decide)
  rw [← b0, ← b1, ← b2, ← b3]
  rfl

/-- Settles O4: each register's wire bytes are the field bits that R82 and R84 list. -/
theorem wireImagesBitByBit : Obligations.WireImagesBitByBit :=
  ⟨encodeCommand_eq_fieldBits, encodeStatus_eq_fieldBits⟩

end Sys2Proof.Machine


namespace Sys2Proof.Machine

/-! ### The codec by length, and its round trips (R110 to R115) -/

/-- R111 on four bytes. -/
theorem decodeCommand_of_length {b : Bytes} (four : b.length = 4) :
    decodeCommand b = some (commandFields (be32 b)) := if_pos four

/-- R110 for the command register. -/
theorem decodeCommand_of_length_ne {b : Bytes} (other : b.length ≠ 4) : decodeCommand b = none := if_neg other

/-- R113 on four bytes. -/
theorem decodeStatus_of_length {b : Bytes} (four : b.length = 4) :
    decodeStatus b = some (statusFields (be32 b)) := if_pos four

/-- R110 for the status register. -/
theorem decodeStatus_of_length_ne {b : Bytes} (other : b.length ≠ 4) : decodeStatus b = none := if_neg other

theorem encodeCommand_commandFields {b : Bytes} (four : b.length = 4) : encodeCommand (commandFields (be32 b)) = b := by
  rw [encodeCommand, commandWord_commandFields, be32bytes_be32 four]

theorem encodeStatus_statusFields {b : Bytes} (four : b.length = 4) : encodeStatus (statusFields (be32 b)) = b := by
  rw [encodeStatus, statusWord_statusFields, be32bytes_be32 four]

theorem decodeCommand_encodeCommand (r : CommandReg) : decodeCommand (encodeCommand r) = some r := by
  rw [decodeCommand_of_length rfl, encodeCommand, be32_be32bytes, commandFields_commandWord]

theorem decodeStatus_encodeStatus (s : StatusReg) : decodeStatus (encodeStatus s) = some s := by
  rw [decodeStatus_of_length rfl, encodeStatus, be32_be32bytes, statusFields_statusWord]

/-- Settles O3: each direction is the round trip of the bytes of a word composed with that of its fields. -/
theorem codecRoundTrips : Obligations.CodecRoundTrips :=
  ⟨fun _ four => ⟨_, decodeCommand_of_length four, encodeCommand_commandFields four⟩, decodeCommand_encodeCommand,
    fun _ four => ⟨_, decodeStatus_of_length four, encodeStatus_statusFields four⟩, decodeStatus_encodeStatus⟩

/-! ### The codec ops (R117 to R120) -/

/-- R117 on data that decodes. -/
theorem exec_codecDecodeCommand_of_some {data : Bytes} {r : CommandReg} (decoded : decodeCommand data = some r)
    (s : State) : exec (.codecDecodeCommand data) s = .next (respond
      { bareResp .ok with rBit1 := r.execute, rCode8 := r.command, rVal23 := r.parameter } s) := by
  simp only [exec, execCodecDecodeCommand, decoded]

/-- R117 on data that does not decode. -/
theorem exec_codecDecodeCommand_of_none {data : Bytes} (undecoded : decodeCommand data = none) (s : State) :
    exec (.codecDecodeCommand data) s = .next (reject .invalidLength s) := by
  simp only [exec, execCodecDecodeCommand, undecoded]

/-- R119 on data that decodes. -/
theorem exec_codecDecodeStatus_of_some {data : Bytes} {r : StatusReg} (decoded : decodeStatus data = some r)
    (s : State) : exec (.codecDecodeStatus data) s = .next (respond
      { bareResp .ok with
        rBit1 := r.operational, rBit2 := r.busy, rCode8 := r.error, rVal22 := r.additionalStatus } s) := by
  simp only [exec, execCodecDecodeStatus, decoded]

/-- R119 on data that does not decode. -/
theorem exec_codecDecodeStatus_of_none {data : Bytes} (undecoded : decodeStatus data = none) (s : State) :
    exec (.codecDecodeStatus data) s = .next (reject .invalidLength s) := by
  simp only [exec, execCodecDecodeStatus, undecoded]

/-- R118. -/
theorem exec_codecEncodeCommand (e : Bool) (c : BitVec 8) (p : BitVec 23) (s : State) :
    exec (.codecEncodeCommand e c p) s = .next (respond (dataResp (encodeCommand ⟨e, c, p⟩) false) s) := rfl

/-- R120. -/
theorem exec_codecEncodeStatus (o b : Bool) (e : BitVec 8) (st : BitVec 22) (s : State) :
    exec (.codecEncodeStatus o b e st) s = .next (respond (dataResp (encodeStatus ⟨o, b, e, st⟩) false) s) := rfl

/-- Settles O50: four bytes always decode, to the slices of their word; no other length does; every answer is a `respond`,
which writes the response alone. -/
theorem codecOpsSliceAndAssemble : Obligations.CodecOpsSliceAndAssemble := by
  intro s
  refine ⟨fun b0 b1 b2 b3 => ⟨?_, ?_⟩, fun data other => ⟨?_, ?_⟩, fun e c p => ?_, fun o b e st => ?_⟩
  · exact exec_codecDecodeCommand_of_some (decodeCommand_of_length rfl) s
  · exact exec_codecDecodeStatus_of_some (decodeStatus_of_length rfl) s
  · exact exec_codecDecodeCommand_of_none (decodeCommand_of_length_ne other) s
  · exact exec_codecDecodeStatus_of_none (decodeStatus_of_length_ne other) s
  · exact exec_codecEncodeCommand e c p s
  · exact exec_codecEncodeStatus o b e st s

end Sys2Proof.Machine


namespace Sys2Proof.Machine

/-! ### An image with execute = 0 (R130, R137) -/

/-- The state machine reads a command's wire image as the command. -/
theorem commandFields_be32_encodeCommand (r : CommandReg) : commandFields (be32 (encodeCommand r)) = r := by
  rw [encodeCommand, be32_be32bytes, commandFields_commandWord]

/-- R235 on four bytes: the consume evaluates the state machine on its image. -/
theorem exec_consumeOutputCmd_of_length {data : Bytes} (four : data.length = 4) (subslot : Nat) (s : State) :
    exec (.consumeOutputCmd subslot data) s = .next (respondIfComplete (smEval data s)) :=
  congrArg Host.Outcome.next (if_pos four)

/-- R130 on an image with execute = 0: `S.pending` alone selects the transition, and neither transition takes a field of
the image. -/
theorem smEval_of_released {b : Bytes} (released : (commandFields (be32 b)).execute = false) (s : State) :
    smEval b s = markFresh (if s.pending then fire s else idle s) := by
  simp only [smEval, released, Bool.false_eq_true, if_false]

/-- R235 with R130: what a consume of an image with execute = 0 does, from the state alone. -/
theorem exec_consumeOutputCmd_of_released {data : Bytes} (four : data.length = 4)
    (released : (commandFields (be32 data)).execute = false) (subslot : Nat) (s : State) :
    exec (.consumeOutputCmd subslot data) s =
      .next (respondIfComplete (markFresh (if s.pending then fire s else idle s))) := by
  rw [exec_consumeOutputCmd_of_length four, smEval_of_released released]

/-- Settles O22: the outcome of a consume whose image has execute = 0 is a function of the state, the same for both
images. -/
theorem releaseImageFieldsHaveNoEffect : Obligations.ReleaseImageFieldsHaveNoEffect := by
  constructor
  · intro subslot c c' p p' s
    have released (c : BitVec 8) (p : BitVec 23) :
        (commandFields (be32 (encodeCommand ⟨false, c, p⟩))).execute = false := by
      rw [commandFields_be32_encodeCommand]
    rw [exec_consumeOutputCmd_of_released rfl (released c p), exec_consumeOutputCmd_of_released rfl (released c' p')]
  · intro subslot s
    have zeros : (commandFields (be32 [0x00, 0x00, 0x00, 0x00])).execute = false := by decide
    have ones : (commandFields (be32 [0x7F, 0xFF, 0xFF, 0xFF])).execute = false := by decide
    rw [exec_consumeOutputCmd_of_released rfl zeros, exec_consumeOutputCmd_of_released rfl ones]

/-! ### The transitions ARM and IDLE (R132, R134) -/

/-- R132: CMDREG.ARM is `ARM(reg)` on the image's command and parameter. -/
theorem exec_cmdregArm (c : BitVec 8) (p : BitVec 23) (s : State) : exec (.cmdregArm c p) s = .next (arm c p s) := rfl

/-- R134: CMDREG.RELEASE_IDLE is `IDLE()`, which takes nothing of the image. -/
theorem exec_cmdregReleaseIdle (c : BitVec 8) (p : BitVec 23) (s : State) :
    exec (.cmdregReleaseIdle c p) s = .next (idle s) := rfl

/-- Settles O16: `arm` writes the latch, pending and the BUSY status of the state's configuration. -/
theorem armLatchesAndReportsBusy : Obligations.ArmLatchesAndReportsBusy := by
  intro c p s
  rw [exec_cmdregArm, arm, statusBusy]

/-- Settles O17: `idle` writes the READY status of the state's configuration. -/
theorem idleReportsReady : Obligations.IdleReportsReady := by
  intro c p s
  rw [exec_cmdregReleaseIdle, idle, statusReady, settled]

end Sys2Proof.Machine


namespace Sys2Proof.Machine

/-! ### What a DISPATCH row can do (R150 to R159) -/

/-- R151: a status that a dispatch returned is settled; one that raised Fatal or is blocked returned none. -/
theorem DispatchStep.result_settled {k : DispatchClass} {s t : State} {st : StatusReg} (h : DispatchStep k s t)
    (result : t.dispatchResult = some st) : st.operational = true ∧ st.busy = false := by
  cases h with
  | returned _ _ _ _ _ op idle =>
    rw [returnStatus_dispatchResult, Option.some.injEq] at result
    exact result ▸ ⟨op, idle⟩
  | booted _ _ _ _ op idle =>
    rw [returnStatus_dispatchResult, Option.some.injEq] at result
    exact result ▸ ⟨op, idle⟩
  | raised =>
    rw [raiseFatal_dispatchResult] at result
    cases result
  | blocked =>
    rw [blockOn_dispatchResult] at result
    cases result

/-- A dispatch of any class may return a settled status at once, without a call. -/
theorem dispatchStep_returnStatus {st : StatusReg} (k : DispatchClass) (op : st.operational = true)
    (idle : st.busy = false) (s : State) : DispatchStep k s (returnStatus st s) :=
  .returned [] s st (.refl s) (Nat.zero_le 2) op idle

/-- Every DISPATCH row completes, as a dispatch of some class does. -/
theorem exec_latched_step {i : Instr} (latched : i.format = .latched) (s : State) :
    ∃ k t, exec i s = .next t ∧ DispatchStep k s t := by
  cases i with
  | dispatchNop => exact ⟨.nop, dispatchNop s, rfl, dispatchStep_returnStatus _ rfl rfl s⟩
  | dispatchLocal => exact ⟨.localUndefined, dispatchLocal s, rfl, dispatchStep_returnStatus _ rfl rfl s⟩
  | dispatchReboot => exact ⟨.reboot, dispatchReboot s, rfl, dispatchReboot_step s⟩
  | dispatchPing => exact ⟨.ping, dispatchPing s, rfl, dispatchStep_returnStatus _ rfl rfl s⟩
  | dispatchForward c p => exact ⟨.forward, dispatchForward c p s, rfl, dispatchForward_step c p s⟩
  | _ => cases latched

/-- Settles O30: the row runs as a dispatch, and each status a dispatch returns is settled. -/
theorem dispatchResultsAreOperationalAndNotBusy : Obligations.DispatchResultsAreOperationalAndNotBusy := by
  intro i s t st latched _ runs result
  obtain ⟨k, u, completes, dispatched⟩ := exec_latched_step latched s
  rw [completes] at runs
  cases runs
  exact dispatched.result_settled result

/-! ### FORWARD (R156 to R159) -/

/-- DISPATCH.FORWARD is `dispatchForward` on the row's command and parameter. -/
theorem exec_dispatchForward (c : BitVec 8) (p : BitVec 23) (s : State) :
    exec (.dispatchForward c p) s = .next (dispatchForward c p s) := rfl

/-- R157: with the backend down, FORWARD returns INTERNAL/ERROR and calls nothing. -/
theorem dispatchForward_of_backendDown {s : State} (down : s.backendUp = false) (c : BitVec 8) (p : BitVec 23) :
    dispatchForward c p s = returnStatus (statusInternalError s.cfg) s :=
  if_neg (by simp [down])

/-- Settles O29: FORWARD records the INTERNAL/ERROR status of the state's configuration, and nothing else. -/
theorem forwardWithBackendDownIsInternalError : Obligations.ForwardWithBackendDownIsInternalError := by
  intro c p s down
  rw [exec_dispatchForward, dispatchForward_of_backendDown down, returnStatus, statusInternalError, settled]

end Sys2Proof.Machine


namespace Sys2Proof.Machine

/-! ### A failed write (R185) -/

/-- Settles O35: a write is either answered with a `respond` alone, or stores its bytes and is answered OK. -/
theorem failedWriteLeavesStateUnchanged : Obligations.FailedWriteLeavesStateUnchanged := by
  intro sub index data s
  obtain ⟨t, completes, how⟩ := exec_request (i := .writeParameter sub index data) rfl s
  cases how with
  | answered _ r => exact ⟨_, r, completes, rfl, fun _ => rfl⟩
  | wrote => exact ⟨_, dataResp [] false, completes, rfl, fun notOk => absurd rfl notOk⟩

/-! ### The parameter rows on a key that is found (R181, R182) -/

/-- R181 on a known key and its length: the bytes are stored verbatim. -/
theorem exec_writeParameter_of_length {sub index k : Nat} {data : Bytes} {s : State}
    (key : lookup s.cfg sub index = some k) (len : data.length = expectedLength s.cfg k) :
    exec (.writeParameter sub index data) s = .next (respond (dataResp [] false) (paramWrite k data s)) := by
  simp only [exec, execWriteParameter, key, len, if_true]

/-- R182 on a written entry with room enough: exactly its bytes. -/
theorem exec_readParameter_of_written {sub index k : Nat} {maxLen : BitVec 16} {b : Bytes} {s : State}
    (key : lookup s.cfg sub index = some k) (room : expectedLength s.cfg k ≤ maxLen.toNat)
    (written : s.params[k]? = some (some b)) :
    exec (.readParameter sub index maxLen) s = .next (respond (dataResp b false) s) := by
  simp only [exec, execReadParameter, key, Nat.not_lt.2 room, if_false, paramRead_written written]

/-! ### Who writes a parameter entry (R184, R186) -/

/-- The configuration, the events to come and the parameter entries are the same. -/
structure SameParameters (s t : State) : Prop where
  cfg : t.cfg = s.cfg
  inputs : t.inputs = s.inputs
  params : t.params = s.params

/-- A backend call touches no parameter entry. -/
theorem EnvStep.sameParameters {calls : List BackendCall} {s t : State} (h : EnvStep calls s t) :
    SameParameters s t := by
  obtain ⟨_, _, _, _, rfl⟩ := h
  exact ⟨rfl, rfl, rfl⟩

/-- An evaluation of the state machine touches no parameter entry, whether it completes or not. -/
theorem EvalStep.sameParameters {s t : State} (h : EvalStep s t) : SameParameters s t := by
  cases h with
  | armed | idled => exact ⟨rfl, rfl, rfl⟩
  | fired _ _ _ _ _ env | raised _ _ _ env | blocked _ _ _ _ env =>
    obtain ⟨cfg, inputs, params⟩ := env.sameParameters
    exact ⟨cfg, inputs, params⟩

/-- An answer, if any, is all that `respondIfComplete` adds. -/
theorem respondIfComplete_sameParameters (s : State) : SameParameters s (respondIfComplete s) := by
  unfold respondIfComplete
  split <;> exact ⟨rfl, rfl, rfl⟩

/-- R186: an accepted request leaves every parameter entry alone, or is a successful write of one. -/
theorem RequestStep.sameParameters_or_wrote {s t : State} {i : Instr} (h : RequestStep s i t) (ok : s.fatal = false)
    (free : s.outstanding = none) :
    SameParameters s t ∨ ∃ sub index data k, i = .writeParameter sub index data ∧ lookup s.cfg sub index = some k ∧
      data.length = expectedLength s.cfg k ∧ t = respond (dataResp [] false) (paramWrite k data s) := by
  cases h with
  | answered => exact .inl ⟨rfl, rfl, rfl⟩
  | read _ _ _ k =>
    obtain ⟨n, drawn⟩ := paramRead_state k s
    rw [drawn]
    exact .inl ⟨rfl, rfl, rfl⟩
  | wrote sub index data k key len => exact .inr ⟨sub, index, data, k, rfl, key, len, rfl⟩
  | output => exact .inl ⟨rfl, rfl, rfl⟩
  | input =>
    obtain ⟨n, computed, _⟩ := computeInput_spec s
    rw [computed]
    exact .inl ⟨rfl, rfl, rfl⟩
  | evaluated _ data =>
    obtain ⟨cfg, inputs, params⟩ := (smEval_step (b := data) ok free rfl).sameParameters
    obtain ⟨cfg', inputs', params'⟩ := respondIfComplete_sameParameters (smEval data s)
    exact .inl ⟨cfg'.trans cfg, inputs'.trans inputs, params'.trans params⟩

/-- R184: one step takes the next event, and keeps entry `k` unless that event is a reset or a successful write of it. -/
theorem step_keeps_entry {s t : State} {k : Nat} (h : step s = .next t)
    (other : ∀ e ∈ s.inputs.head?, e ≠ .reset ∧ ¬ WritesEntry s.cfg k e) :
    t.cfg = s.cfg ∧ t.inputs = s.inputs.tail ∧ t.params[k]? = s.params[k]? := by
  obtain ⟨_, how⟩ := step_cases h
  cases how with
  | waits none => simp [none]
  | resets rest head => exact absurd rfl (other .reset (by simp [head])).1
  | ignored r rest head => simp [head, notAccepted]
  | ran r rest i t head ok free decoded _ how =>
    rw [head, List.tail_cons]
    obtain ⟨cfg, inputs, params⟩ | ⟨sub, index, data, j, rfl, key, len, rfl⟩ := how.sameParameters_or_wrote ok free
    · exact ⟨cfg, inputs, congrArg (·[k]?) params⟩
    · have apart : j ≠ k := by
        rintro rfl
        exact (other (.request r) (by simp [head])).2 ⟨r, sub, index, data, rfl, decoded, key, len⟩
      exact ⟨rfl, rfl, List.getElem?_set_ne apart⟩

/-- R184 over a run: entry `k` is kept unless one of the events taken is a reset or a successful write of it. -/
theorem run_keeps_entry {k n : Nat} {s u : State} (h : Host.Core.run core n s = .next u)
    (others : ∀ e ∈ s.inputs.take n, e ≠ .reset ∧ ¬ WritesEntry s.cfg k e) :
    u.cfg = s.cfg ∧ u.params[k]? = s.params[k]? := by
  induction n generalizing s with
  | zero =>
    cases h
    exact ⟨rfl, rfl⟩
  | succ n ih =>
    obtain ⟨t, first, rest⟩ := run_succ_inv h
    have head : ∀ e ∈ s.inputs.head?, e ≠ .reset ∧ ¬ WritesEntry s.cfg k e := fun e he =>
      others e (List.mem_of_mem_head? (by rwa [List.head?_take, if_neg n.succ_ne_zero]))
    obtain ⟨cfg, inputs, params⟩ := step_keeps_entry first head
    have tail : ∀ e ∈ t.inputs.take n, e ≠ .reset ∧ ¬ WritesEntry t.cfg k e := fun e he =>
      cfg ▸ others e (List.mem_of_mem_tail (by rwa [List.tail_take_eq_take_tail, Nat.add_sub_cancel, ← inputs]))
    obtain ⟨cfg', params'⟩ := ih rest tail
    exact ⟨cfg'.trans cfg, params'.trans params⟩

/-- Canonical memory has one parameter entry per descriptor (R27). -/
theorem params_length_of_wf {s : State} (memory : Memory.wf s = true) :
    s.params.length = s.cfg.descriptors.length := by
  simp only [Memory.wf, Bool.and_eq_true] at memory
  obtain ⟨⟨params, _⟩, _⟩ := memory
  exact paramsFit_length params

/-- Under a well-formed configuration the key of an entry finds that entry (R8, R180). -/
theorem lookup_of_wf {c : Cfg} {k : Nat} {d : Descriptor} (wf : c.wf = true) (entry : c.descriptors[k]? = some d) :
    lookup c d.submoduleId d.index = some k :=
  lookup_of_key (decide_eq_true (cfg_wf_iff.1 wf).1.keys) entry rfl

/-- Settles O36: the write stores the bytes in the entry of the key, the run keeps that entry, and the read returns it. -/
theorem readReturnsTheLastWriteAfterAnyRequests : Obligations.ReadReturnsTheLastWriteAfterAnyRequests := by
  intro n s t u k d data maxLen memory wf entry write len run others room
  have key : lookup s.cfg d.submoduleId d.index = some k := lookup_of_wf wf entry
  have expected : expectedLength s.cfg k = d.expectedLengthBytes := expectedLength_of entry
  rw [exec_writeParameter_of_length key (len.trans expected.symm)] at write
  cases write
  obtain ⟨cfg, kept⟩ := run_keeps_entry run others
  rw [respond_cfg, paramWrite_cfg] at cfg
  have inRange : k < s.params.length := by
    obtain ⟨inRange, _⟩ := List.getElem?_eq_some_iff.1 entry
    rwa [params_length_of_wf memory]
  have stored : u.params[k]? = some (some data) := by
    rw [kept, respond_params, paramWrite_params, List.getElem?_set_self inRange]
  exact exec_readParameter_of_written (cfg ▸ key) (by rwa [cfg, expected]) stored

end Sys2Proof.Machine


namespace Sys2Proof.Machine

/-! ### The signal transform on written operands (R201 to R203) -/

/-- R85: the first channel of a buffer is its first field. -/
theorem intField_signalBuffer (i f : Word) : intField (signalBuffer i f) = i := be32_be32bytes i

/-- R85: the second channel of a buffer is its second field. -/
theorem floatField_signalBuffer (i f : Word) : floatField (signalBuffer i f) = f := be32_be32bytes f

theorem readSigOutput_written {s : State} {b : Bytes} (written : s.sigOutput = some b) : readSigOutput s = (b, s) := by
  simp only [readSigOutput, written]

/-- R64: under a well-formed configuration the gain entry is the one with `GAIN_KEY`. -/
theorem gainEntry_of_wf {c : Cfg} {k : Nat} {d : Descriptor} (wf : c.wf = true) (entry : c.descriptors[k]? = some d)
    (key : d.key = c.gainKey) : gainEntry c = k := by
  have found : lookup c c.gainKey.1 c.gainKey.2 = some k :=
    lookup_of_key (decide_eq_true (cfg_wf_iff.1 wf).1.keys) entry key
  rw [gainEntry, found, Option.getD_some]

/-- R202 on a written gain: its value, and no draw. -/
theorem readGain_written {s : State} {g : Word} (written : s.params[gainEntry s.cfg]? = some (some (be32bytes g))) :
    readGain s = (g, s) := by
  simp only [readGain, paramRead_written written, be32_be32bytes]

/-- R201 with the output and the gain written: the buffer of the two products; only the float product may draw. -/
theorem computeInput_of_written {s : State} {i f g : Word} (output : s.sigOutput = some (signalBuffer i f))
    (gain : s.params[gainEntry s.cfg]? = some (some (be32bytes g))) :
    computeInput s = (signalBuffer (intProduct i g) (floatProduct f g s).1,
      { (floatProduct f g s).2 with sigInput := signalBuffer (intProduct i g) (floatProduct f g s).1 }) := by
  simp only [computeInput, readSigOutput_written output, readGain_written gain, intField_signalBuffer,
    floatField_signalBuffer]

/-- R239: PRODUCE_INPUT.SIG answers what `compute_input` gives. -/
theorem exec_produceInputSig (subslot : Nat) (s : State) :
    exec (.produceInputSig subslot) s = .next (respond (dataResp (computeInput s).1 true) (computeInput s).2) := rfl

/-- R203, unsigned reading. -/
theorem intProduct_toNat (i g : Word) : (intProduct i g).toNat = i.toNat * g.toNat % 2 ^ 32 := BitVec.toNat_mul i g

/-- R203, two's-complement reading. -/
theorem intProduct_toInt (i g : Word) : (intProduct i g).toInt = (i.toInt * g.toInt).bmod (2 ^ 32) :=
  BitVec.toInt_mul i g

/-- Settles O40: the answer is the buffer of the two products, its first four bytes are the integer product, and that is
the word product in both readings. -/
theorem integerChannelIsTheLowWordOfTheProduct : Obligations.IntegerChannelIsTheLowWordOfTheProduct := by
  intro subslot s k d i f g wf entry key gain output
  have atGain : s.params[gainEntry s.cfg]? = some (some (be32bytes g)) := by rwa [gainEntry_of_wf wf entry key]
  have first : (computeInput s).1.take 4 = be32bytes (intProduct i g) := by
    rw [computeInput_of_written output atGain, signalBuffer]
    exact List.take_left' (be32bytes_length _)
  exact ⟨_, _, intProduct i g, exec_produceInputSig subslot s, rfl, rfl, first, intProduct_toNat i g,
    intProduct_toInt i g⟩

end Sys2Proof.Machine


namespace Sys2Proof

/-! ### How a request decodes (R90, R233, R234, R243) -/

/-- R233, R266: a nonzero reserved header bit is seen before any op. -/
theorem decodeReq_of_reserved {c : Cfg} {r : Req} (representable : unrepresentable c r = none)
    (reserved : headerReserved r.header ≠ 0) :
    decodeReq c r = .ok (.reservedHeaderBits (headerReserved r.header) (headerOp r.header)) := by
  simp only [decodeReq, representable, if_pos reserved]

/-- R90: with the reserved header bits 0, the op decides. -/
theorem decodeReq_of_not_reserved {c : Cfg} {r : Req} (representable : unrepresentable c r = none)
    (zero : headerReserved r.header = 0) : decodeReq c r = .ok (decodeOp c r) := by
  simp only [decodeReq, representable, if_neg (not_not.2 zero)]

theorem route_cmd {c : Cfg} {sub : Nat} (is : sub = c.cmdSub) (cmd sig other : Instr) :
    route c sub cmd sig other = cmd := if_pos is

/-- The signal route needs distinct submodules (R8): the command submodule is tested first. -/
theorem route_sig {c : Cfg} {sub : Nat} (distinct : c.cmdSub ≠ c.sigSub) (is : sub = c.sigSub)
    (cmd sig other : Instr) : route c sub cmd sig other = sig := by
  rw [route, if_neg (is ▸ distinct.symm), if_pos is]

theorem route_other {c : Cfg} {sub : Nat} (notCmd : sub ≠ c.cmdSub) (notSig : sub ≠ c.sigSub)
    (cmd sig other : Instr) : route c sub cmd sig other = other := by
  rw [route, if_neg notCmd, if_neg notSig]

/-- R234 for op 0x0. -/
theorem decodeOp_consumeOutput {r : Req} (op : headerOp r.header = 0) (c : Cfg) :
    decodeOp c r = route c r.submoduleId (.consumeOutputCmd r.subslot r.data) (.consumeOutputSig r.subslot r.data)
      (.consumeOutputOther r.submoduleId r.subslot r.data) := by
  simp [decodeOp, op]

/-- R234 for op 0x1. -/
theorem decodeOp_produceInput {r : Req} (op : headerOp r.header = 1) (c : Cfg) :
    decodeOp c r = route c r.submoduleId (.produceInputCmd r.subslot) (.produceInputSig r.subslot)
      (.produceInputOther r.submoduleId r.subslot) := by
  simp [decodeOp, op]

/-- R243: the ops with header[3] = 1 are reserved. -/
theorem decodeOp_reservedOp {r : Req} (op : 8 ≤ (headerOp r.header).toNat) (c : Cfg) :
    decodeOp c r = .reservedOp ((headerOp r.header).extractLsb' 0 3) := by
  unfold decodeOp
  split
  case h_9 => rfl
  all_goals omega

/-- Settles O6: the op selects the rows, the submodule one of the three; a well-formed configuration tells the command
submodule from the signal submodule. -/
theorem cyclicRequestsRouteBySubmodule : Obligations.CyclicRequestsRouteBySubmodule := by
  intro c r pending wf representable zero
  have distinct : c.cmdSub ≠ c.sigSub := (Machine.cfg_wf_iff.1 wf).1.submodules
  rw [decode, decodeReq_of_not_reserved representable zero]
  constructor
  · intro op
    rw [decodeOp_consumeOutput op]
    exact ⟨fun is => congrArg _ (route_cmd is ..), fun is => congrArg _ (route_sig distinct is ..),
      fun notCmd notSig => congrArg _ (route_other notCmd notSig ..)⟩
  · intro op
    rw [decodeOp_produceInput op]
    exact ⟨fun is => congrArg _ (route_cmd is ..), fun is => congrArg _ (route_sig distinct is ..),
      fun notCmd notSig => congrArg _ (route_other notCmd notSig ..)⟩

/-! ### Which requests are a PRODUCE_INPUT -/

/-- The rows of op 0x1 (R238 to R240). -/
def Instr.isProduceInput : Instr → Bool
  | .produceInputCmd _ | .produceInputSig _ | .produceInputOther _ _ => true
  | _ => false

/-- R234: the submodule does not change which op a row belongs to. -/
theorem isProduceInput_route {cmd sig other : Instr} {b : Bool} (hcmd : cmd.isProduceInput = b)
    (hsig : sig.isProduceInput = b) (hother : other.isProduceInput = b) (c : Cfg) (sub : Nat) :
    (route c sub cmd sig other).isProduceInput = b := by
  unfold route
  split
  · exact hcmd
  · split
    · exact hsig
    · exact hother

/-- R90: of the eight ops and the reserved ones, 0x1 alone selects these rows. -/
theorem decodeOp_isProduceInput_iff (c : Cfg) (r : Req) :
    (decodeOp c r).isProduceInput = true ↔ headerOp r.header = 1#4 := by
  rw [← BitVec.toNat_inj]
  unfold decodeOp
  split
  case h_1 op =>
    rw [isProduceInput_route (b := false) rfl rfl rfl, op]
    decide
  case h_2 op => exact iff_of_true (isProduceInput_route (b := true) rfl rfl rfl ..) op
  case h_9 notProduce _ _ _ _ _ _ => exact iff_of_false nofun notProduce
  case h_3 op | h_4 op | h_5 op | h_6 op | h_7 op | h_8 op => exact iff_of_false nofun (ne_of_eq_of_ne op (by decide))

/-- R90, R233: a request is a PRODUCE_INPUT exactly when its whole header says so. -/
theorem decodeReq_isProduceInput_iff {c : Cfg} {r : Req} {i : Instr} (representable : unrepresentable c r = none)
    (decoded : decodeReq c r = .ok i) :
    i.isProduceInput = true ↔ headerReserved r.header = 0 ∧ headerOp r.header = 1#4 := by
  by_cases zero : headerReserved r.header = 0
  · rw [decodeReq_of_not_reserved representable zero] at decoded
    cases decoded
    rw [decodeOp_isProduceInput_iff, and_iff_right zero]
  · rw [decodeReq_of_reserved representable zero] at decoded
    cases decoded
    exact iff_of_false nofun fun header => zero header.1

end Sys2Proof


namespace Sys2Proof.Machine

/-! ### The step of a presented request (R230) -/

/-- A request presented to an accepting port runs as its instruction, once the outputs of the step before are gone. -/
theorem step_of_presented {s : State} {r : Req} {rest : List PortEvent} {i : Instr} (h : Presented s r rest)
    (decoded : decodeReq s.cfg r = .ok i) : step s = exec i (beginRequest { s with inputs := rest }) := by
  obtain ⟨wf, ⟨ok, free⟩, head, _⟩ := h
  simp [step, takeEvent, presentRequest, runRequest, decode, wf, head, free, ok, decoded]

/-- A step on a presented request ran one of the rows of the request format. -/
theorem Presented.ran {s t : State} {r : Req} {rest : List PortEvent} (h : Presented s r rest)
    (did : step s = .next t) : ∃ i, decodeReq s.cfg r = .ok i ∧
      exec i (beginRequest { s with inputs := rest }) = .next t ∧
      RequestStep (beginRequest { s with inputs := rest }) i t := by
  have head := h.presented
  obtain ⟨_, how⟩ := step_cases did
  cases how with
  | waits none => cases none.symm.trans head
  | resets _ reset => cases reset.symm.trans head
  | ignored _ _ _ fatal => cases fatal.symm.trans h.accepting.1
  | ran _ _ i _ same _ _ decoded did how =>
    cases same.symm.trans head
    exact ⟨i, decoded, did, how⟩

/-! ### The reserved headers (R233, R243) -/

theorem exec_reservedOp (op : BitVec 3) (s : State) : exec (.reservedOp op) s = .next (reject .illegalOp s) := rfl

theorem exec_reservedHeaderBits (reserved : BitVec 28) (op : BitVec 4) (s : State) :
    exec (.reservedHeaderBits reserved op) s = .next (reject .illegalOp s) := rfl

/-- R233, R243: a reserved header is rejected with ILLEGAL_OP, whichever way it is reserved. -/
theorem step_of_reserved_header {s : State} {r : Req} {rest : List PortEvent} (h : Presented s r rest)
    (reserved : headerReserved r.header ≠ 0 ∨ 8 ≤ (headerOp r.header).toNat) :
    step s = .next (reject .illegalOp (beginRequest { s with inputs := rest })) := by
  by_cases zero : headerReserved r.header = 0
  · have decoded := decodeReq_of_not_reserved h.representable zero
    rw [decodeOp_reservedOp (reserved.resolve_left (not_not.2 zero))] at decoded
    rw [step_of_presented h decoded, exec_reservedOp]
  · rw [step_of_presented h (decodeReq_of_reserved h.representable zero), exec_reservedHeaderBits]

/-- Settles O5: both rows reject with ILLEGAL_OP, and the step of a reserved header is such a rejection. -/
theorem reservedHeadersAreIllegalOps : Obligations.ReservedHeadersAreIllegalOps :=
  ⟨exec_reservedOp, exec_reservedHeaderBits, fun _ _ _ => step_of_reserved_header⟩

/-! ### The cyclic rows (R235 to R240) -/

/-- R235. -/
theorem exec_consumeOutputCmd (subslot : Nat) (data : Bytes) (s : State) :
    exec (.consumeOutputCmd subslot data) s =
      .next (if data.length = 4 then respondIfComplete (smEval data s) else reject .unsupported s) := rfl

/-- R236. -/
theorem exec_consumeOutputSig (subslot : Nat) (data : Bytes) (s : State) :
    exec (.consumeOutputSig subslot data) s =
      .next (if data.length = 8 then respond (dataResp [] false) (setOutput data s) else reject .unsupported s) := rfl

/-- R237. -/
theorem exec_consumeOutputOther (sub subslot : Nat) (data : Bytes) (s : State) :
    exec (.consumeOutputOther sub subslot data) s = .next (reject .unsupported s) := rfl

/-- R238. -/
theorem exec_produceInputCmd (subslot : Nat) (s : State) :
    exec (.produceInputCmd subslot) s = .next (respond (dataResp (encodeStatus (reportedStatus s)) true) s) := rfl

/-- R240. -/
theorem exec_produceInputOther (sub subslot : Nat) (s : State) :
    exec (.produceInputOther sub subslot) s = .next (reject .none s) := rfl

/-- R235 on any other length. -/
theorem exec_consumeOutputCmd_of_length_ne {data : Bytes} (other : data.length ≠ 4) (subslot : Nat) (s : State) :
    exec (.consumeOutputCmd subslot data) s = .next (reject .unsupported s) := by
  rw [exec_consumeOutputCmd, if_neg other]

/-- R236 on any other length. -/
theorem exec_consumeOutputSig_of_length_ne {data : Bytes} (other : data.length ≠ 8) (subslot : Nat) (s : State) :
    exec (.consumeOutputSig subslot data) s = .next (reject .unsupported s) := by
  rw [exec_consumeOutputSig, if_neg other]

/-- Settles O21: each of the four answers is a `reject`, which writes the response alone. -/
theorem unsupportedConsumesAndNoInput : Obligations.UnsupportedConsumesAndNoInput :=
  ⟨fun ss _ s other => exec_consumeOutputCmd_of_length_ne other ss s,
    fun ss _ s other => exec_consumeOutputSig_of_length_ne other ss s, exec_consumeOutputOther, exec_produceInputOther⟩

/-- R238 once an evaluation has completed. -/
theorem reportedStatus_of_fresh {s : State} (fresh : s.statusIsFresh = true) : reportedStatus s = s.status :=
  if_pos fresh

/-- R238 before any evaluation has completed. -/
theorem reportedStatus_of_not_fresh {s : State} (unfresh : s.statusIsFresh = false) :
    reportedStatus s = statusReady s.cfg := by
  rw [reportedStatus, unfresh, if_neg Bool.false_ne_true]

/-- Settles O49: the row answers the reported status, and `respond` writes the response alone. -/
theorem statusInputReportsTheStatusOrReady : Obligations.StatusInputReportsTheStatusOrReady := by
  intro subslot s
  constructor
  · intro fresh
    rw [exec_produceInputCmd, reportedStatus_of_fresh fresh, respond, dataResp]
  · intro unfresh
    rw [exec_produceInputCmd, reportedStatus_of_not_fresh unfresh, respond, dataResp, statusReady, settled]

/-- Settles O51: what each cyclic row does is said without its subslot. -/
theorem subslotHasNoEffect : Obligations.SubslotHasNoEffect := by
  intro sub ss ss' data s
  refine ⟨?_, ?_, ?_, ?_, ?_, ?_⟩
  · rw [exec_consumeOutputCmd, exec_consumeOutputCmd]
  · rw [exec_consumeOutputSig, exec_consumeOutputSig]
  · rw [exec_consumeOutputOther, exec_consumeOutputOther]
  · rw [exec_produceInputCmd, exec_produceInputCmd]
  · rw [exec_produceInputSig, exec_produceInputSig]
  · rw [exec_produceInputOther, exec_produceInputOther]

/-! ### The quality of a response (R245) -/

/-- A backend call answers no request. -/
theorem EnvStep.response {calls : List BackendCall} {s t : State} (h : EnvStep calls s t) :
    t.response = s.response := by
  obtain ⟨_, _, _, _, rfl⟩ := h
  rfl

/-- An evaluation of the state machine answers no request: it leaves the response, or drops it. -/
theorem EvalStep.response_eq_none {s t : State} (h : EvalStep s t) (begun : s.response = none) : t.response = none := by
  cases h with
  | armed | idled => exact begun
  | fired _ _ _ _ _ env => exact env.response.trans begun
  | raised | blocked => rfl

/-- R235: the only answer to a command image is OK without data. -/
theorem response_respondIfComplete {s : State} {x : Resp} (unanswered : s.response = none)
    (answer : (respondIfComplete s).response = some x) : x = dataResp [] false := by
  cases aborted : s.aborted with
  | false =>
    rw [respondIfComplete_completed aborted, respond_response, Option.some.injEq] at answer
    exact answer.symm
  | true =>
    rw [respondIfComplete_aborted aborted, unanswered] at answer
    cases answer

/-- R245: good quality is given only with OK, and only by a row of PRODUCE_INPUT. -/
theorem RequestStep.produced_of_qualityGood {s t : State} {i : Instr} {x : Resp} (h : RequestStep s i t)
    (accepting : s.accepting) (begun : s.response = none) (answer : t.response = some x)
    (good : x.qualityGood = true) : x.code = .ok ∧ i.isProduceInput = true := by
  cases h with
  | answered _ _ bare _ quality =>
    rw [respond_response, Option.some.injEq] at answer
    subst answer
    obtain ⟨ss, rfl⟩ := quality good
    refine ⟨by_contra fun notOk => ?_, rfl⟩
    rw [bare notOk] at good
    cases good
  | input =>
    cases answer
    exact ⟨rfl, rfl⟩
  | read | wrote | output =>
    cases answer
    cases good
  | evaluated _ data =>
    have unanswered := (smEval_step (b := data) accepting.1 accepting.2 rfl).response_eq_none begun
    rw [response_respondIfComplete unanswered answer] at good
    cases good

/-- R245: every OK answer of a row of PRODUCE_INPUT has good quality; `.OTHER` is never OK (R240). -/
theorem qualityGood_of_produced {s t : State} {i : Instr} {x : Resp} (produce : i.isProduceInput = true)
    (did : exec i s = .next t) (answer : t.response = some x) (ok : x.code = .ok) : x.qualityGood = true := by
  cases i with
  | produceInputCmd ss =>
    rw [exec_produceInputCmd] at did
    cases did
    cases answer
    rfl
  | produceInputSig ss =>
    rw [exec_produceInputSig] at did
    cases did
    cases answer
    rfl
  | produceInputOther sub ss =>
    rw [exec_produceInputOther] at did
    cases did
    cases answer
    cases ok
  | _ => cases produce

/-- Settles O55: the request that ran is a row of PRODUCE_INPUT exactly when its header says so, and good quality is
that row's OK. -/
theorem qualityIsGoodExactlyOnSuccessfulProduce : Obligations.QualityIsGoodExactlyOnSuccessfulProduce := by
  intro s t r rest x h did answer
  obtain ⟨i, decoded, did, how⟩ := h.ran did
  rw [← decodeReq_isProduceInput_iff h.representable decoded]
  exact ⟨how.produced_of_qualityGood h.accepting rfl answer,
    fun ⟨ok, produce⟩ => qualityGood_of_produced produce did answer ok⟩

end Sys2Proof.Machine


namespace Sys2Proof.Machine

/-! ### Reset (R290 to R294) -/

/-- A reset is taken whatever the state: neither Fatal nor an outstanding call holds it back (R290). -/
theorem step_reset {s : State} {rest : List PortEvent} (wf : s.cfg.wf = true) (head : s.inputs = .reset :: rest) :
    step s = .next (resetEvent { s with inputs := rest }) := by
  rw [step, if_pos wf, takeEvent, head]

/-- Under R8's three descriptors, a reset leaves the three parameters unwritten. -/
theorem resetEvent_params_of_wf {s : State} (wf : s.cfg.wf = true) : (resetEvent s).params = [none, none, none] := by
  have three : s.cfg.descriptors.length = 3 := (cfg_wf_iff.1 wf).1.three
  rw [resetEvent_params, List.map_const', three]
  rfl

@[simp] theorem resetEvent_fatalOut (s : State) : (resetEvent s).fatalOut = false := rfl

/-- Settles O13: the step is `resetEvent`, whose fields are the values of reset, and a well-formed configuration has the
three entries. -/
theorem resetRestoresTheInitialMode : Obligations.ResetRestoresTheInitialMode := by
  intro s rest wf head
  exact ⟨_, step_reset wf head, resetEvent_cfg _, resetEvent_inputs _, resetEvent_pending _, resetEvent_statusIsFresh _,
    resetEvent_fatal _, resetEvent_fatalOut _, resetEvent_backendUp _, resetEvent_params_of_wf wf, resetEvent_sigOutput _,
    resetEvent_outstanding _, resetEvent_response _, resetEvent_backendCalls _⟩

end Sys2Proof.Machine


namespace Sys2Proof

/-! ### The class of a latched command (R93, R150) -/

theorem classOf_nop (c : Cfg) : classOf c c.cmdNop = .nop := if_pos rfl

/-- A local code is none of the built-in codes (R8), so the tests before its own fail. -/
theorem classOf_local {c : Cfg} {code : BitVec 8} (wf : c.wf = true) (mem : code ∈ c.localUndefinedCodes) :
    classOf c code = .localUndefined := by
  obtain ⟨notNop, _, _⟩ := (Machine.cfg_wf_iff.1 wf).1.locals code mem
  rw [classOf, if_neg notNop, if_pos (List.contains_iff_mem.2 mem)]

/-- A built-in code is not local (R8). -/
theorem not_mem_locals_of_builtin {c : Cfg} {code : BitVec 8} (wf : c.wf = true)
    (builtin : code = c.cmdReboot ∨ code = c.cmdPing) : code ∉ c.localUndefinedCodes := by
  intro mem
  obtain ⟨_, notReboot, notPing⟩ := (Machine.cfg_wf_iff.1 wf).1.locals code mem
  exact builtin.elim notReboot notPing

theorem classOf_reboot {c : Cfg} (wf : c.wf = true) : classOf c c.cmdReboot = .reboot := by
  obtain ⟨nopReboot, _, _⟩ := (Machine.cfg_wf_iff.1 wf).1.builtins
  have notLocal := not_mem_locals_of_builtin wf (.inl rfl)
  rw [classOf, if_neg nopReboot.symm, if_neg (mt List.contains_iff_mem.1 notLocal), if_pos rfl]

theorem classOf_ping {c : Cfg} (wf : c.wf = true) : classOf c c.cmdPing = .ping := by
  obtain ⟨_, nopPing, rebootPing⟩ := (Machine.cfg_wf_iff.1 wf).1.builtins
  have notLocal := not_mem_locals_of_builtin wf (.inr rfl)
  rw [classOf, if_neg nopPing.symm, if_neg (mt List.contains_iff_mem.1 notLocal), if_neg rebootPing.symm, if_pos rfl]

theorem classOf_forward {c : Cfg} {code : BitVec 8} (notNop : code ≠ c.cmdNop)
    (notLocal : code ∉ c.localUndefinedCodes) (notReboot : code ≠ c.cmdReboot) (notPing : code ≠ c.cmdPing) :
    classOf c code = .forward := by
  rw [classOf, if_neg notNop, if_neg (mt List.contains_iff_mem.1 notLocal), if_neg notReboot, if_neg notPing]

/-- R81: the fields of a latched command's word are the command's. -/
theorem decode_latchedWord (c : Cfg) (pending : Bool) (code : BitVec 8) (p : BitVec 23) :
    decode c pending (.latched (latchedWord code p)) = .ok (dispatchOf c code p) := by
  have fields : commandFields (latchedWord code p) = ⟨false, code, p⟩ := commandFields_commandWord _
  obtain ⟨_, command, parameter⟩ := CommandReg.mk.inj fields
  rw [decode, decodeLatched, command, parameter]

/-- Settles O24: the latched word decodes to the dispatch of its code, and R8 makes the tests of R150 exclusive. -/
theorem commandCodesSelectTheirClass : Obligations.CommandCodesSelectTheirClass := by
  intro c pending code p wf
  rw [decode_latchedWord]
  refine ⟨?_, fun mem => ?_, ?_, ?_, fun notNop notLocal notReboot notPing => ?_⟩
  · rintro rfl
    rw [dispatchOf, classOf_nop]
  · rw [dispatchOf, classOf_local wf mem]
  · rintro rfl
    rw [dispatchOf, classOf_reboot wf]
  · rintro rfl
    rw [dispatchOf, classOf_ping wf]
  · rw [dispatchOf, classOf_forward notNop notLocal notReboot notPing]

/-! ### What the port can carry (R89, D29) -/

theorem unrepresentable_eq_none_iff {c : Cfg} {r : Req} : unrepresentable c r = none ↔
    r.data.length = r.len.toNat ∧ r.submoduleId < 2 ^ c.submoduleIdW ∧ r.subslot < 2 ^ c.subslotW ∧
      r.index < 2 ^ c.indexW := by
  unfold unrepresentable
  split_ifs with data sub subslot index
  · exact iff_of_false nofun fun ⟨carried, _⟩ => data carried
  · exact iff_of_false nofun fun ⟨_, carried, _⟩ => sub.not_gt carried
  · exact iff_of_false nofun fun ⟨_, _, carried, _⟩ => subslot.not_gt carried
  · exact iff_of_false nofun fun ⟨_, _, _, carried⟩ => index.not_gt carried
  · exact iff_of_true rfl ⟨not_not.1 data, Nat.not_le.1 sub, Nat.not_le.1 subslot, Nat.not_le.1 index⟩

/-- The `len` of a request with data is the number of its bytes, if 16 bits can say it (R89). -/
theorem withData_len {data : Bytes} (fits : data.length < 2 ^ 16) (r : Req) :
    (r.withData data).data.length = (r.withData data).len.toNat :=
  (Nat.mod_eq_of_lt fits).symm

theorem consumeReq_representable {c : Cfg} {sub subslot : Nat} {data : Bytes} (hsub : sub < 2 ^ c.submoduleIdW)
    (hsubslot : subslot < 2 ^ c.subslotW) (hdata : data.length < 2 ^ 16) :
    unrepresentable c (consumeReq sub subslot data) = none :=
  unrepresentable_eq_none_iff.2 ⟨withData_len hdata _, hsub, hsubslot, Nat.two_pow_pos _⟩

theorem produceReq_representable {c : Cfg} {sub subslot : Nat} (hsub : sub < 2 ^ c.submoduleIdW)
    (hsubslot : subslot < 2 ^ c.subslotW) : unrepresentable c (produceReq sub subslot) = none :=
  unrepresentable_eq_none_iff.2 ⟨rfl, hsub, hsubslot, Nat.two_pow_pos _⟩

theorem writeReq_representable {c : Cfg} {sub index : Nat} {data : Bytes} (hsub : sub < 2 ^ c.submoduleIdW)
    (hindex : index < 2 ^ c.indexW) (hdata : data.length < 2 ^ 16) :
    unrepresentable c (writeReq sub index data) = none :=
  unrepresentable_eq_none_iff.2 ⟨withData_len hdata _, hsub, Nat.two_pow_pos _, hindex⟩

theorem readReq_representable {c : Cfg} {sub index : Nat} (hsub : sub < 2 ^ c.submoduleIdW)
    (hindex : index < 2 ^ c.indexW) (maxLen : BitVec 16) : unrepresentable c (readReq sub index maxLen) = none :=
  unrepresentable_eq_none_iff.2 ⟨rfl, hsub, Nat.two_pow_pos _, hindex⟩

/-- A codec request carries data alone. -/
theorem withData_representable {data : Bytes} (fits : data.length < 2 ^ 16) (c : Cfg) (h : Word) :
    unrepresentable c ((Req.ofHeader h).withData data) = none :=
  unrepresentable_eq_none_iff.2 ⟨withData_len fits _, Nat.two_pow_pos _, Nat.two_pow_pos _, Nat.two_pow_pos _⟩

/-- A request whose identifiers and length are 0 fits every configuration. -/
theorem representable_of_zero {r : Req} (data : r.data = []) (len : r.len = 0) (sub : r.submoduleId = 0)
    (subslot : r.subslot = 0) (index : r.index = 0) (c : Cfg) : unrepresentable c r = none := by
  rw [unrepresentable_eq_none_iff, data, len, sub, subslot, index]
  exact ⟨rfl, Nat.two_pow_pos _, Nat.two_pow_pos _, Nat.two_pow_pos _⟩

theorem ofHeader_representable (h : Word) (c : Cfg) : unrepresentable c (Req.ofHeader h) = none :=
  representable_of_zero rfl rfl rfl rfl rfl c

/-! ### Decode of encode (R81, R88 to R90, R93) -/

theorem firstViolation_isNone_iff {checks : List (Bool × Violation)} :
    (firstViolation checks).isNone = true ↔ ∀ check ∈ checks, check.1 = true := by
  induction checks with
  | nil => simp [firstViolation]
  | cons check rest ih =>
    obtain ⟨holds, v⟩ := check
    rw [List.forall_mem_cons, ← ih]
    cases holds <;> simp [firstViolation]

/-- A well-formed instruction passes each of its checks. -/
theorem Instr.wf_iff {c : Cfg} {i : Instr} : i.wf c = true ↔ ∀ check ∈ i.checks c, check.1 = true :=
  firstViolation_isNone_iff

/-- R88, R90: with the reserved bits 0, the request decodes as its op says. -/
theorem decode_req_of_op {c : Cfg} {r : Req} {op : BitVec 4} (pending : Bool) (header : r.header = headerOf op)
    (representable : unrepresentable c r = none) : decode c pending (.req r) = .ok (decodeOp c r) :=
  decodeReq_of_not_reserved representable (header ▸ headerReserved_headerOf op)

/-- R90, R234: op 0x0 routes its submodule id, whose subslot and data it keeps. -/
theorem decode_consumeReq {c : Cfg} {sub subslot : Nat} {data : Bytes} (pending : Bool)
    (hsub : sub < 2 ^ c.submoduleIdW) (hsubslot : subslot < 2 ^ c.subslotW) (hdata : data.length < 2 ^ 16) :
    decode c pending (.req (consumeReq sub subslot data)) =
      .ok (route c sub (.consumeOutputCmd subslot data) (.consumeOutputSig subslot data)
        (.consumeOutputOther sub subslot data)) := by
  rw [decode_req_of_op pending rfl (consumeReq_representable hsub hsubslot hdata),
    decodeOp_consumeOutput (headerOp_headerOf 0)]
  rfl

/-- R90, R234: op 0x1 routes its submodule id, whose subslot it keeps. -/
theorem decode_produceReq {c : Cfg} {sub subslot : Nat} (pending : Bool)
    (hsub : sub < 2 ^ c.submoduleIdW) (hsubslot : subslot < 2 ^ c.subslotW) :
    decode c pending (.req (produceReq sub subslot)) =
      .ok (route c sub (.produceInputCmd subslot) (.produceInputSig subslot) (.produceInputOther sub subslot)) := by
  rw [decode_req_of_op pending rfl (produceReq_representable hsub hsubslot),
    decodeOp_produceInput (headerOp_headerOf 1)]
  rfl

/-- R90: an op with header[3] = 1 is at least 8, and its low bits are header[2:0]. -/
theorem reservedOp_bits (op : BitVec 3) : 8 ≤ (1#1 ++ op).toNat ∧ (1#1 ++ op).extractLsb' 0 3 = op := by
  revert op; decide

/-- The rows of the host request port. -/
theorem decode_encode_of_req {c : Cfg} {i : Instr} (pending : Bool) (cfg : c.wf = true) (wf : i.wf c = true)
    (format : i.format = .req) : decode c pending (encode c i) = .ok i := by
  obtain ⟨wellFormed, widths⟩ := Machine.cfg_wf_iff.1 cfg
  replace wf := Instr.wf_iff.1 wf
  cases i with
  | consumeOutputCmd subslot data =>
    obtain ⟨hsubslot, hdata⟩ : subslot < _ ∧ data.length < _ := by simpa [Instr.checks, subslotFits, dataFits] using wf
    rw [encode, decode_consumeReq pending widths.cmdSub hsubslot hdata, route_cmd rfl]
  | consumeOutputSig subslot data =>
    obtain ⟨hsubslot, hdata⟩ : subslot < _ ∧ data.length < _ := by simpa [Instr.checks, subslotFits, dataFits] using wf
    rw [encode, decode_consumeReq pending widths.sigSub hsubslot hdata, route_sig wellFormed.submodules rfl]
  | consumeOutputOther sub subslot data =>
    obtain ⟨hsub, hsubslot, hdata, notCmd, notSig⟩ :
        sub < _ ∧ subslot < _ ∧ data.length < _ ∧ sub ≠ c.cmdSub ∧ sub ≠ c.sigSub := by
      simpa [Instr.checks, submoduleFits, subslotFits, dataFits, unrouted] using wf
    rw [encode, decode_consumeReq pending hsub hsubslot hdata, route_other notCmd notSig]
  | produceInputCmd subslot =>
    have hsubslot : subslot < 2 ^ c.subslotW := by simpa [Instr.checks, subslotFits] using wf
    rw [encode, decode_produceReq pending widths.cmdSub hsubslot, route_cmd rfl]
  | produceInputSig subslot =>
    have hsubslot : subslot < 2 ^ c.subslotW := by simpa [Instr.checks, subslotFits] using wf
    rw [encode, decode_produceReq pending widths.sigSub hsubslot, route_sig wellFormed.submodules rfl]
  | produceInputOther sub subslot =>
    obtain ⟨hsub, hsubslot, notCmd, notSig⟩ : sub < _ ∧ subslot < _ ∧ sub ≠ c.cmdSub ∧ sub ≠ c.sigSub := by
      simpa [Instr.checks, submoduleFits, subslotFits, unrouted] using wf
    rw [encode, decode_produceReq pending hsub hsubslot, route_other notCmd notSig]
  | writeParameter sub index data =>
    obtain ⟨hsub, hindex, hdata⟩ : sub < _ ∧ index < _ ∧ data.length < _ := by
      simpa [Instr.checks, submoduleFits, indexFits, dataFits] using wf
    exact decode_req_of_op pending rfl (writeReq_representable hsub hindex hdata)
  | readParameter sub index maxLen =>
    obtain ⟨hsub, hindex⟩ : sub < _ ∧ index < _ := by simpa [Instr.checks, submoduleFits, indexFits] using wf
    exact decode_req_of_op pending rfl (readReq_representable hsub hindex maxLen)
  | codecDecodeCommand data | codecDecodeStatus data =>
    have hdata : data.length < 2 ^ 16 := by simpa [Instr.checks, dataFits] using wf
    exact decode_req_of_op pending rfl (withData_representable hdata c _)
  | codecEncodeCommand | codecEncodeStatus =>
    exact decode_req_of_op pending rfl (representable_of_zero rfl rfl rfl rfl rfl c)
  | reservedOp op =>
    have header : headerOp (headerOf (1#1 ++ op)) = 1#1 ++ op := headerOp_headerOf _
    have high : 8 ≤ (headerOp (headerOf (1#1 ++ op))).toNat := by rw [header]; exact (reservedOp_bits op).1
    have decoded := decode_req_of_op (r := Req.ofHeader (headerOf (1#1 ++ op))) pending rfl (ofHeader_representable _ c)
    have row := decodeOp_reservedOp (r := Req.ofHeader (headerOf (1#1 ++ op))) high c
    rw [encode, decoded, row, Req.ofHeader, header, (reservedOp_bits op).2]
  | reservedHeaderBits reserved op =>
    have header : headerReserved (reserved ++ op) = reserved := headerReserved_append reserved op
    have nonzero : headerReserved (reserved ++ op) ≠ 0 := by
      rw [header]
      simpa [Instr.checks] using wf
    rw [encode, decode, decodeReq_of_reserved (ofHeader_representable _ c) nonzero, Req.ofHeader, header,
      headerOp_append]
  | _ => cases format

/-- The transitions of the state machine: the image decodes to its fields, and `pending` tells the releases apart. -/
theorem decode_encode_of_cmdreg {i : Instr} {pending : Bool} (c : Cfg) (selected : i.selectedAt pending = true)
    (format : i.format = .cmdreg) : decode c pending (encode c i) = .ok i := by
  have image (r : CommandReg) : decode c pending (.cmdreg (encodeCommand r)) = .ok (transitionOf pending r) := by
    simp only [decode, decodeImage, Machine.decodeCommand_encodeCommand]
  cases i with
  | cmdregArm => exact image _
  | cmdregReleaseFire =>
    obtain rfl : pending = true := selected
    exact image _
  | cmdregReleaseIdle =>
    obtain rfl : pending = false := by simpa [Instr.selectedAt] using selected
    exact image _
  | _ => cases format

/-- The dispatch rows: a well-formed row's code is of the row's class. -/
theorem decode_encode_of_latched {c : Cfg} {i : Instr} (pending : Bool) (cfg : c.wf = true) (wf : i.wf c = true)
    (format : i.format = .latched) : decode c pending (encode c i) = .ok i := by
  replace wf := Instr.wf_iff.1 wf
  cases i with
  | dispatchNop p =>
    obtain ⟨nop, _⟩ := commandCodesSelectTheirClass c pending c.cmdNop p cfg
    exact nop rfl
  | dispatchLocal code p =>
    have mem : code ∈ c.localUndefinedCodes := by simpa [Instr.checks] using wf
    obtain ⟨_, isLocal, _⟩ := commandCodesSelectTheirClass c pending code p cfg
    exact isLocal mem
  | dispatchReboot p =>
    obtain ⟨_, _, reboot, _⟩ := commandCodesSelectTheirClass c pending c.cmdReboot p cfg
    exact reboot rfl
  | dispatchPing p =>
    obtain ⟨_, _, _, ping, _⟩ := commandCodesSelectTheirClass c pending c.cmdPing p cfg
    exact ping rfl
  | dispatchForward code p =>
    obtain ⟨⟨⟨notNop, notLocal⟩, notReboot⟩, notPing⟩ :
        ((code ≠ c.cmdNop ∧ code ∉ c.localUndefinedCodes) ∧ code ≠ c.cmdReboot) ∧ code ≠ c.cmdPing := by
      simpa [Instr.checks, forwarded] using wf
    obtain ⟨_, _, _, _, forward⟩ := commandCodesSelectTheirClass c pending code p cfg
    exact forward notNop notLocal notReboot notPing
  | _ => cases format

/-- Settles O1: format by format. -/
theorem encodeThenDecodeGivesBackTheInstruction : Obligations.EncodeThenDecodeGivesBackTheInstruction := by
  intro c i pending cfg wf selected
  cases format : i.format with
  | req => exact decode_encode_of_req pending cfg wf format
  | cmdreg => exact decode_encode_of_cmdreg c selected format
  | latched => exact decode_encode_of_latched pending cfg wf format

/-! ### Fields an op does not name (R89) -/

/-- R89: the decoder looks at the fields the op names, and no other. -/
theorem decodeOp_congr {r r' : Req} (header : r.header = r'.header)
    (agree : Machine.AgreeOnNamed (headerOp r.header).toNat r r') (c : Cfg) : decodeOp c r = decodeOp c r' := by
  unfold decodeOp
  rw [← header]
  generalize (headerOp r.header).toNat = op at agree ⊢
  match op, agree with
  | 0, ⟨sub, subslot, _, data⟩ => simp only [sub, subslot, data]
  | 1, ⟨sub, subslot⟩ => simp only [sub, subslot]
  | 2, ⟨sub, index, _, data⟩ => simp only [sub, index, data]
  | 3, ⟨sub, index, maxLen⟩ => simp only [sub, index, maxLen]
  | 4, ⟨_, data⟩ => simp only [data]
  | 5, ⟨bit1, code8, val23⟩ => simp only [bit1, code8, val23]
  | 6, ⟨_, data⟩ => simp only [data]
  | 7, ⟨bit1, bit2, code8, val22⟩ => simp only [bit1, bit2, code8, val22]
  | _ + 8, _ => rfl

/-- Settles O7: the header check sees the header alone, and the op its named fields. -/
theorem unnamedFieldsAreIgnored : Obligations.UnnamedFieldsAreIgnored := by
  intro c pending r r' representable representable' header agree
  rw [decode, decode]
  by_cases zero : headerReserved r.header = 0
  · rw [decodeReq_of_not_reserved representable zero, decodeReq_of_not_reserved representable' (header ▸ zero),
      decodeOp_congr header agree]
  · rw [decodeReq_of_reserved representable zero, decodeReq_of_reserved representable' (header ▸ zero), header]

end Sys2Proof


namespace Sys2Proof.Machine

/-! ### The built-in dispatches (R152, R153, R155) -/

theorem exec_dispatchNop (p : BitVec 23) (s : State) : exec (.dispatchNop p) s = .next (dispatchNop s) := rfl

theorem exec_dispatchLocal (c : BitVec 8) (p : BitVec 23) (s : State) :
    exec (.dispatchLocal c p) s = .next (dispatchLocal s) := rfl

theorem exec_dispatchReboot (p : BitVec 23) (s : State) : exec (.dispatchReboot p) s = .next (dispatchReboot s) := rfl

theorem exec_dispatchPing (p : BitVec 23) (s : State) : exec (.dispatchPing p) s = .next (dispatchPing s) := rfl

/-- Settles O25: each row records a fixed status of the state's configuration. -/
theorem builtinsReturnTheirFixedStatuses : Obligations.BuiltinsReturnTheirFixedStatuses := by
  intro c p s
  refine ⟨?_, ?_, ?_⟩
  · rw [exec_dispatchNop, dispatchNop, returnStatus, statusUndefined, settled]
  · rw [exec_dispatchLocal, dispatchLocal, returnStatus, statusUndefined, settled]
  · rw [exec_dispatchPing, dispatchPing, returnStatus, statusPingReply, settled]

/-! ### The backend's calls (R160) -/

/-- What REBOOT's calls leave: the calls recorded, answers to the shutdown and the init call taken, and draws made. -/
def BootCalls (calls : List BackendCall) (s u : State) : Prop :=
  ∃ sa ia n, u = { s with
    shutdownAnswers := sa, initAnswers := ia, draws := n, backendCalls := s.backendCalls ++ calls }

theorem BootCalls.trans {c d : List BackendCall} {s t u : State} (h : BootCalls c s t) (k : BootCalls d t u) :
    BootCalls (c ++ d) s u := by
  obtain ⟨sa, ia, n, rfl⟩ := h
  obtain ⟨sa', ia', n', rfl⟩ := k
  exact ⟨sa', ia', n', by simp⟩

theorem callShutdown_boot (s : State) : BootCalls [.shutdown] s (callShutdown s).2 := by
  unfold callShutdown
  split <;> exact ⟨_, _, _, rfl⟩

theorem callInit_boot (s : State) : BootCalls [.initBackend] s (callInit s).2 := by
  unfold callInit
  split <;> exact ⟨_, _, _, rfl⟩

/-- What FORWARD's call leaves: the call recorded, an answer to `execute` taken, and draws made. -/
def ForwardCall (c : BitVec 8) (p : BitVec 23) (s u : State) : Prop :=
  ∃ ea n, u = { s with executeAnswers := ea, draws := n, backendCalls := s.backendCalls ++ [.execute c p] }

theorem callExecute_forward (c : BitVec 8) (p : BitVec 23) (s : State) : ForwardCall c p s (callExecute c p s).2 := by
  unfold callExecute
  split <;> exact ⟨_, _, rfl⟩

theorem callShutdown_listed {s : State} {a : ShutdownAnswer} {sa : List ShutdownAnswer}
    (listed : s.shutdownAnswers = a :: sa) :
    callShutdown s = (a, recordCall .shutdown { s with shutdownAnswers := sa }) := by
  simp only [callShutdown, listed]

theorem callInit_listed {s : State} {a : InitAnswer} {ia : List InitAnswer} (listed : s.initAnswers = a :: ia) :
    callInit s = (a, recordCall .initBackend { s with initAnswers := ia }) := by
  simp only [callInit, listed]

theorem callExecute_listed {s : State} {a : ExecuteAnswer} {ea : List ExecuteAnswer}
    (listed : s.executeAnswers = a :: ea) (c : BitVec 8) (p : BitVec 23) :
    callExecute c p s = (a, recordCall (.execute c p) { s with executeAnswers := ea }) := by
  simp only [callExecute, listed]

/-! ### REBOOT (R154) -/

/-- What REBOOT can do: it boots the backend, raises Fatal, or is blocked in one of its two calls. -/
inductive RebootStep (s : State) : State → Prop where
  | booted (u : State) (calls : BootCalls [.shutdown, .initBackend] s u) :
      RebootStep s (returnStatus (statusBooting s.cfg) { u with backendUp := true })
  | raised (u : State) (calls : BootCalls [.shutdown, .initBackend] s u) : RebootStep s (raiseFatal u)
  | initBlocked (u : State) (calls : BootCalls [.shutdown, .initBackend] s u) : RebootStep s (blockOn .initBackend u)
  | shutdownBlocked (u : State) (calls : BootCalls [.shutdown] s u) : RebootStep s (blockOn .shutdown u)

theorem dispatchReboot_outcome (s : State) : RebootStep s (dispatchReboot s) := by
  have first := callShutdown_boot s
  unfold dispatchReboot
  split
  next s1 answer =>
    rw [answer] at first
    exact .shutdownBlocked s1 first
  next s1 answer =>
    rw [answer] at first
    have both := first.trans (callInit_boot s1)
    split
    next s2 answer =>
      rw [answer] at both
      exact .booted s2 both
    next s2 answer =>
      rw [answer] at both
      exact .raised s2 both
    next s2 answer =>
      rw [answer] at both
      exact .initBlocked s2 both

/-- Settles O27: the four outcomes of REBOOT, whose calls touch answers, draws and the record of calls alone. -/
theorem rebootHasFourOutcomes : Obligations.RebootHasFourOutcomes := by
  intro p s
  refine ⟨_, exec_dispatchReboot p s, ?_⟩
  have outcome := dispatchReboot_outcome s
  generalize dispatchReboot s = t at outcome
  cases outcome with
  | booted u calls =>
    obtain ⟨sa, ia, n, rfl⟩ := calls
    exact ⟨⟨rfl, rfl, rfl, rfl, rfl⟩, ⟨rfl, rfl, rfl⟩, rfl, rfl, rfl, .inl ⟨rfl, rfl, rfl, rfl, rfl, rfl⟩⟩
  | raised u calls =>
    obtain ⟨sa, ia, n, rfl⟩ := calls
    exact ⟨⟨rfl, rfl, rfl, rfl, rfl⟩, ⟨rfl, rfl, rfl⟩, rfl, rfl, rfl, .inr (.inl ⟨rfl, rfl, rfl, rfl, rfl, rfl⟩)⟩
  | initBlocked u calls =>
    obtain ⟨sa, ia, n, rfl⟩ := calls
    exact ⟨⟨rfl, rfl, rfl, rfl, rfl⟩, ⟨rfl, rfl, rfl⟩, rfl, rfl, rfl, .inr (.inr (.inl ⟨rfl, rfl, rfl, rfl, rfl, rfl⟩))⟩
  | shutdownBlocked u calls =>
    obtain ⟨sa, ia, n, rfl⟩ := calls
    exact ⟨⟨rfl, rfl, rfl, rfl, rfl⟩, ⟨rfl, rfl, rfl⟩, rfl, rfl, rfl, .inr (.inr (.inr ⟨rfl, rfl, rfl, rfl, rfl, rfl⟩))⟩

/-- R154: the listed answer to the init call, made once the shutdown call has returned. -/
theorem callInit_after_shutdown {s : State} {sa : List ShutdownAnswer} {a : InitAnswer} {ia : List InitAnswer}
    (listed : s.initAnswers = a :: ia) :
    callInit (recordCall .shutdown { s with shutdownAnswers := sa }) = (a, { s with
      shutdownAnswers := sa, initAnswers := ia, backendCalls := s.backendCalls ++ [.shutdown, .initBackend] }) := by
  rw [callInit_listed (s := recordCall .shutdown { s with shutdownAnswers := sa }) listed]
  simp [recordCall]

/-- Settles O26: with the answers listed, the calls take them in order, and each answer selects its outcome. -/
theorem rebootFollowsTheBackendsAnswers : Obligations.RebootFollowsTheBackendsAnswers := by
  intro p s sa ia
  rw [exec_dispatchReboot]
  refine ⟨fun shutdown init => ?_, fun shutdown init => ?_, fun shutdown init => ?_, fun shutdown => ?_⟩
  · simp only [dispatchReboot, callShutdown_listed shutdown, callInit_after_shutdown init, returnStatus, statusBooting,
      settled]
  · simp only [dispatchReboot, callShutdown_listed shutdown, callInit_after_shutdown init, raiseFatal]
  · simp only [dispatchReboot, callShutdown_listed shutdown, callInit_after_shutdown init, blockOn]
  · simp only [dispatchReboot, callShutdown_listed shutdown, blockOn, recordCall]

/-! ### FORWARD with the backend up (R156 to R159) -/

/-- What FORWARD can do with the backend up: its one call returns some status, or does not return. -/
inductive ForwardStep (c : BitVec 8) (p : BitVec 23) (s : State) : State → Prop where
  | returned (u : State) (st : StatusReg) (call : ForwardCall c p s u) : ForwardStep c p s (returnStatus st u)
  | blocked (u : State) (call : ForwardCall c p s u) : ForwardStep c p s (blockOn (.execute c p) u)

theorem dispatchForward_outcome {s : State} (up : s.backendUp = true) (c : BitVec 8) (p : BitVec 23) :
    ForwardStep c p s (dispatchForward c p s) := by
  have call := callExecute_forward c p s
  rw [dispatchForward, if_pos up]
  split
  next e st s1 answer =>
    rw [answer] at call
    exact .returned s1 _ call
  next s1 answer =>
    rw [answer] at call
    exact .returned s1 _ call
  next s1 answer =>
    rw [answer] at call
    exact .blocked s1 call

/-- R156: a status code of less than 2^22 passes through. -/
theorem statusOfPair_narrow {code : BitVec 32} (narrow : code.toNat < 2 ^ 22) (c : Cfg) (e : BitVec 8) :
    statusOfPair c e code = settled e (BitVec.ofNat 22 code.toNat) := if_pos narrow

/-- R159, `TRUNCATE`: a wider one loses its high bits. -/
theorem statusOfPair_truncate {c : Cfg} {code : BitVec 32} (wide : 2 ^ 22 ≤ code.toNat)
    (policy : c.wideStatusPolicy = .truncate) (e : BitVec 8) :
    statusOfPair c e code = settled e (BitVec.ofNat 22 (code.toNat % 2 ^ 22)) := by
  have low : code.extractLsb' 0 22 = BitVec.ofNat 22 (code.toNat % 2 ^ 22) := by
    apply BitVec.eq_of_toNat_eq
    simp
  rw [statusOfPair, if_neg (Nat.not_lt.2 wide), policy, low]

/-- R159, `MALFORMED`: a wider one is INTERNAL/ERROR. -/
theorem statusOfPair_malformed {c : Cfg} {code : BitVec 32} (wide : 2 ^ 22 ≤ code.toNat)
    (policy : c.wideStatusPolicy = .malformed) (e : BitVec 8) : statusOfPair c e code = statusInternalError c := by
  rw [statusOfPair, if_neg (Nat.not_lt.2 wide), policy]

/-- Settles O28: the listed answer is the call's, and each answer selects its status. -/
theorem forwardPassesCommandAndReplyThrough : Obligations.ForwardPassesCommandAndReplyThrough := by
  intro c p s a ea up listed
  rw [exec_dispatchForward, dispatchForward, if_pos up, callExecute_listed listed]
  constructor
  · rintro st (⟨rfl, rfl⟩ | ⟨e, code, rfl, narrow, rfl⟩ | ⟨e, code, rfl, wide, policy, rfl⟩ |
      ⟨e, code, rfl, wide, policy, rfl⟩)
    · rfl
    · simp only [statusOfPair_narrow narrow, settled, returnStatus, recordCall]
    · simp only [statusOfPair_truncate wide policy, settled, returnStatus, recordCall]
    · simp only [statusOfPair_malformed wide policy, statusInternalError, settled, returnStatus, recordCall]
  · rintro rfl
    rfl

/-! ### What every dispatch leaves alone (R160, R163) -/

/-- A dispatch writes no element of ExecutionState and no stored buffer, whatever its class (R163). -/
structure SameButBackend (s t : State) : Prop where
  execution : SameExecution s t
  storage : SameStorage s t
  cfg : t.cfg = s.cfg
  inputs : t.inputs = s.inputs

theorem DispatchStep.sameButBackend {k : DispatchClass} {s t : State} (h : DispatchStep k s t) :
    SameButBackend s t := by
  cases h with
  | returned _ _ _ env | booted _ _ _ env | raised _ _ env | blocked _ _ _ env =>
    obtain ⟨_, _, _, _, rfl⟩ := env
    exact ⟨⟨rfl, rfl, rfl, rfl, rfl⟩, ⟨rfl, rfl, rfl⟩, rfl, rfl⟩

/-- FORWARD with the backend up takes no answer to the shutdown or the init call, and writes neither `backend_up` nor
`fatal`. -/
theorem ForwardStep.boot_unchanged {c : BitVec 8} {p : BitVec 23} {s t : State} (h : ForwardStep c p s t) :
    t.backendUp = s.backendUp ∧ t.fatal = s.fatal ∧ t.shutdownAnswers = s.shutdownAnswers ∧
      t.initAnswers = s.initAnswers := by
  cases h with
  | returned _ _ call | blocked _ call =>
    obtain ⟨_, _, rfl⟩ := call
    exact ⟨rfl, rfl, rfl, rfl⟩

theorem dispatchForward_boot_unchanged (c : BitVec 8) (p : BitVec 23) (s : State) :
    (dispatchForward c p s).backendUp = s.backendUp ∧ (dispatchForward c p s).fatal = s.fatal ∧
      (dispatchForward c p s).shutdownAnswers = s.shutdownAnswers ∧
      (dispatchForward c p s).initAnswers = s.initAnswers := by
  cases up : s.backendUp with
  | true => exact up ▸ (dispatchForward_outcome up c p).boot_unchanged
  | false =>
    rw [dispatchForward_of_backendDown up]
    exact ⟨up, rfl, rfl, rfl⟩

/-- Settles O31: the shared frame of a dispatch, and class by class what its calls may take. -/
theorem dispatchLeavesExecutionStateAlone : Obligations.DispatchLeavesExecutionStateAlone := by
  intro i s latched
  obtain ⟨k, t, completes, how⟩ := exec_latched_step latched s
  obtain ⟨execution, storage, cfg, inputs⟩ := how.sameButBackend
  refine ⟨t, completes, execution, storage, cfg, inputs, ?_⟩
  cases i with
  | dispatchNop | dispatchLocal | dispatchPing =>
    cases completes
    exact ⟨fun _ => ⟨rfl, rfl, rfl, rfl⟩, fun _ => rfl⟩
  | dispatchReboot p =>
    obtain ⟨u, reboots, _, _, _, _, answers, _⟩ := rebootHasFourOutcomes p s
    cases completes.symm.trans reboots
    exact ⟨fun other => absurd rfl (other p), fun _ => answers⟩
  | dispatchForward c p =>
    rw [exec_dispatchForward] at completes
    cases completes
    exact ⟨fun _ => dispatchForward_boot_unchanged c p s, fun other => absurd rfl (other c p)⟩
  | _ => cases latched

/-- R157, R160: the calls of FORWARD are its own `execute`, with the backend up, or none. -/
theorem dispatchForward_calls (c : BitVec 8) (p : BitVec 23) (s : State) :
    (dispatchForward c p s).backendCalls = s.backendCalls ++ [.execute c p] ∧ s.backendUp = true ∨
      (dispatchForward c p s).backendCalls = s.backendCalls := by
  cases up : s.backendUp with
  | true =>
    have outcome := dispatchForward_outcome up c p
    generalize dispatchForward c p s = t at outcome
    cases outcome with
    | returned _ _ call | blocked _ call =>
      obtain ⟨_, _, rfl⟩ := call
      exact .inl ⟨rfl, rfl⟩
  | false =>
    rw [dispatchForward_of_backendDown up]
    exact .inr rfl

/-- Settles O32: class by class, the calls a dispatch records. -/
theorem backendIsCalledOnlyAsTheRulesSay : Obligations.BackendIsCalledOnlyAsTheRulesSay := by
  intro i s t latched runs
  cases i with
  | dispatchNop | dispatchLocal | dispatchPing =>
    cases runs
    exact ⟨[], by simp [dispatchNop, dispatchLocal, dispatchPing], by simp⟩
  | dispatchReboot p =>
    obtain ⟨u, reboots, _, _, _, _, _, outcome⟩ := rebootHasFourOutcomes p s
    cases runs.symm.trans reboots
    obtain ⟨calls, _⟩ | ⟨calls, _⟩ | ⟨calls, _⟩ | ⟨calls, _⟩ := outcome
    all_goals exact ⟨_, calls, by simp⟩
  | dispatchForward c p =>
    rw [exec_dispatchForward] at runs
    cases runs
    obtain ⟨calls, up⟩ | none := dispatchForward_calls c p s
    · refine ⟨_, calls, by simp, by simp, fun c' p' mem => ?_⟩
      obtain ⟨rfl, rfl⟩ : c' = c ∧ p' = p := by simpa using mem
      exact ⟨rfl, up⟩
    · exact ⟨[], by simp [none], by simp⟩
  | _ => cases latched

end Sys2Proof.Machine


namespace Sys2Proof.Machine

/-! ### The port before a request runs (R76, R230, R246) -/

/-- Settles O9: `beginRequest` clears the outputs of the step before. -/
theorem stepRunsTheDecodedRequest : Obligations.StepRunsTheDecodedRequest := by
  intro s r rest i h decoded
  rw [step_of_presented h decoded, beginRequest]

/-- Settles O11: while fatal the step only takes the request and clears the outputs. -/
theorem fatalPortAcceptsNoRequest : Obligations.FatalPortAcceptsNoRequest := by
  intro s r rest wf fatal free head
  simp only [step, wf, takeEvent, head, presentRequest, free, fatal, notAccepted, beginRequest, Option.isSome_none,
    Bool.false_eq_true, if_true, if_false]

/-- Settles O12: the port looks for a request in progress first. -/
theorem overlappingRequestIsRefused : Obligations.OverlappingRequestIsRefused := by
  intro s r rest call wf blocked head
  simp only [step, wf, takeEvent, head, presentRequest, blocked, Option.isSome_some, if_true]

/-- D29: a request that the port cannot carry is rejected by name. -/
theorem step_of_unrepresentable {s : State} {r : Req} {rest : List PortEvent} {e : DecodeError}
    (wf : s.cfg.wf = true) (accepting : s.accepting) (head : s.inputs = .request r :: rest)
    (unrepresentable : unrepresentable s.cfg r = some e) : step s = .refused (.unrepresentableRequest e) := by
  obtain ⟨ok, free⟩ := accepting
  simp only [step, wf, takeEvent, head, presentRequest, free, ok, runRequest, decode, decodeReq, unrepresentable,
    Option.isSome_none, Bool.false_eq_true, if_true, if_false]

/-- R90: a request the port can carry decodes. -/
theorem Presented.decodes {s : State} {r : Req} {rest : List PortEvent} (h : Presented s r rest) :
    ∃ i, decodeReq s.cfg r = .ok i := by
  by_cases zero : headerReserved r.header = 0
  · exact ⟨_, decodeReq_of_not_reserved h.representable zero⟩
  · exact ⟨_, decodeReq_of_reserved h.representable zero⟩

/-- R230: a presented request completes in one of the ways of its row. -/
theorem Presented.completes {s : State} {r : Req} {rest : List PortEvent} (h : Presented s r rest) :
    ∃ i t, step s = .next t ∧ RequestStep (beginRequest { s with inputs := rest }) i t := by
  obtain ⟨i, decoded⟩ := h.decodes
  obtain ⟨t, completes, how⟩ := exec_request (decodeReq_format decoded) (beginRequest { s with inputs := rest })
  exact ⟨i, t, (step_of_presented h decoded).trans completes, how⟩

/-- Settles O8: the port refuses what it cannot carry, and a request it can carry completes. -/
theorem unrepresentableRequestsAreRefused : Obligations.UnrepresentableRequestsAreRefused := by
  intro s r rest wf accepting head
  rw [← unrepresentable_eq_none_iff]
  cases carried : unrepresentable s.cfg r with
  | some e => exact iff_of_true ⟨e, step_of_unrepresentable wf accepting head carried⟩ nofun
  | none =>
    obtain ⟨_, t, completes, _⟩ := Presented.completes ⟨wf, accepting, head, carried⟩
    refine iff_of_false ?_ (not_not.2 rfl)
    rintro ⟨e, refused⟩
    cases refused.symm.trans completes

/-- A step on a presented request ran the row that its decoder gives. -/
theorem Presented.ran_as {s t : State} {r : Req} {rest : List PortEvent} {i : Instr} (h : Presented s r rest)
    (decoded : decode s.cfg s.pending (.req r) = .ok i) (did : step s = .next t) :
    RequestStep (beginRequest { s with inputs := rest }) i t := by
  obtain ⟨j, decoded', _, how⟩ := h.ran did
  cases Eq.trans decoded.symm decoded'
  exact how

/-! ### How an accepted request ends (R91, R162, R263) -/

theorem aborted_eq_false_iff {s : State} : s.aborted = false ↔ s.accepting := by
  simp [State.aborted, State.accepting]

/-- `respondIfComplete` writes the response alone. -/
theorem respondIfComplete_eq (s : State) : ∃ x, respondIfComplete s = { s with response := x } := by
  unfold respondIfComplete
  split
  · exact ⟨s.response, rfl⟩
  · exact ⟨_, rfl⟩

/-- An evaluation completes, or raised Fatal, or is blocked in a call; in the last two it gives no response. -/
theorem EvalStep.outcome {s t : State} (h : EvalStep s t) (accepting : s.accepting) :
    t.accepting ∨ (t.response = none ∧ t.fatal = true ∧ t.outstanding = none) ∨
      (t.response = none ∧ t.fatal = false ∧ ∃ call, t.outstanding = some call) := by
  obtain ⟨ok, free⟩ := accepting
  cases h with
  | armed | idled => exact .inl ⟨ok, free⟩
  | fired _ _ _ _ _ env =>
    obtain ⟨_, _, _, _, rfl⟩ := env
    exact .inl ⟨ok, free⟩
  | raised _ _ _ env =>
    obtain ⟨_, _, _, _, rfl⟩ := env
    exact .inr (.inl ⟨rfl, rfl, free⟩)
  | blocked _ call _ _ env =>
    obtain ⟨_, _, _, _, rfl⟩ := env
    exact .inr (.inr ⟨rfl, ok, call, rfl⟩)

/-- What only an evaluation of the state machine writes is the same. -/
structure SameControl (s t : State) : Prop where
  execution : SameExecution s t
  backendUp : t.backendUp = s.backendUp
  fatal : t.fatal = s.fatal
  outstanding : t.outstanding = s.outstanding
  backendCalls : t.backendCalls = s.backendCalls

/-- R131: a request is answered and writes no control state, or is a command consume of 4 bytes. -/
theorem RequestStep.answered_or_evaluated {s t : State} {i : Instr} (h : RequestStep s i t) :
    (SameControl s t ∧ ∃ x, t.response = some x) ∨
      ∃ ss data, i = .consumeOutputCmd ss data ∧ data.length = 4 ∧ t = respondIfComplete (smEval data s) := by
  cases h with
  | answered | wrote | output => exact .inl ⟨⟨⟨rfl, rfl, rfl, rfl, rfl⟩, rfl, rfl, rfl, rfl⟩, _, rfl⟩
  | read _ _ _ k =>
    obtain ⟨n, drawn⟩ := paramRead_state k s
    rw [drawn]
    exact .inl ⟨⟨⟨rfl, rfl, rfl, rfl, rfl⟩, rfl, rfl, rfl, rfl⟩, _, rfl⟩
  | input =>
    obtain ⟨n, computed, _⟩ := computeInput_spec s
    rw [computed]
    exact .inl ⟨⟨⟨rfl, rfl, rfl, rfl, rfl⟩, rfl, rfl, rfl, rfl⟩, _, rfl⟩
  | evaluated ss data len => exact .inr ⟨ss, data, rfl, len, rfl⟩

/-- A request is answered, or raised Fatal, or is blocked in a call. -/
theorem RequestStep.outcome {s t : State} {i : Instr} (h : RequestStep s i t) (accepting : s.accepting) :
    ((∃ x, t.response = some x) ∧ t.accepting) ∨ (t.response = none ∧ t.fatal = true ∧ t.outstanding = none) ∨
      (t.response = none ∧ t.fatal = false ∧ ∃ call, t.outstanding = some call) := by
  obtain ⟨same, answered⟩ | ⟨_, data, _, _, rfl⟩ := h.answered_or_evaluated
  · exact .inl ⟨answered, same.fatal.trans accepting.1, same.outstanding.trans accepting.2⟩
  obtain completed | stopped := (smEval_step (b := data) accepting.1 accepting.2 rfl).outcome accepting
  · rw [respondIfComplete_completed (aborted_eq_false_iff.2 completed)]
    exact .inl ⟨⟨_, rfl⟩, completed⟩
  · have aborted : (smEval data s).aborted = true := by
      obtain ⟨_, fatal, _⟩ | ⟨_, _, call, blocked⟩ := stopped
      · simp [State.aborted, fatal]
      · simp [State.aborted, blocked]
    rw [respondIfComplete_aborted aborted]
    exact .inr stopped

/-- No request changes the configuration or the events to come. -/
theorem RequestStep.sameCfg {s t : State} {i : Instr} (h : RequestStep s i t) (accepting : s.accepting) :
    t.cfg = s.cfg ∧ t.inputs = s.inputs := by
  obtain same | ⟨_, _, _, _, _, _, _, rfl⟩ := h.sameParameters_or_wrote accepting.1 accepting.2
  · exact ⟨same.cfg, same.inputs⟩
  · exact ⟨rfl, rfl⟩

/-- Settles O10: the presented request completes, and its outcome is one of three. -/
theorem acceptedRequestIsAnsweredOrStopsThePort : Obligations.AcceptedRequestIsAnsweredOrStopsThePort := by
  intro s r rest h
  obtain ⟨i, t, did, how⟩ := h.completes
  obtain ⟨cfg, inputs⟩ := how.sameCfg h.accepting
  exact ⟨t, did, inputs, cfg, how.outcome h.accepting⟩

/-! ### Rejections (R232, R261) -/

/-- A request answered with an error code writes its response alone, which is bare. -/
theorem RequestStep.rejected {s t : State} {i : Instr} {x : Resp} (h : RequestStep s i t) (accepting : s.accepting)
    (begun : s.response = none) (answer : t.response = some x) (notOk : x.code ≠ .ok) :
    t = respond x s ∧ x = bareResp x.code := by
  cases h with
  | answered _ r bare =>
    cases answer
    exact ⟨rfl, bare notOk⟩
  | read | wrote | output | input =>
    cases answer
    exact absurd rfl notOk
  | evaluated _ data =>
    have unanswered := (smEval_step (b := data) accepting.1 accepting.2 rfl).response_eq_none begun
    cases response_respondIfComplete unanswered answer
    exact absurd rfl notOk

/-- Settles O54: a rejected request writes its bare response over the begun request. -/
theorem rejectedRequestsChangeNoState : Obligations.RejectedRequestsChangeNoState := by
  intro s t r rest x h did answer notOk
  obtain ⟨i, _, _, how⟩ := h.ran did
  exact how.rejected h.accepting rfl answer notOk

/-! ### Who evaluates the state machine, and who writes a buffer (R131, R186, R200, R208) -/

/-- Settles O56: the request is none that evaluates, so control is what it was when the request began. -/
theorem onlyCommandConsumesEvaluateTheStateMachine : Obligations.OnlyCommandConsumesEvaluateTheStateMachine := by
  intro s t r rest i h decoded other did
  obtain ⟨⟨execution, backendUp, fatal, outstanding, backendCalls⟩, _⟩ | ⟨ss, data, is, len, _⟩ :=
    (h.ran_as decoded did).answered_or_evaluated
  · exact ⟨{ execution with }, backendUp, fatal, outstanding.trans h.accepting.2, backendCalls⟩
  · exact absurd len (other ss data is)

/-- An evaluation of the state machine writes no stored buffer. -/
theorem EvalStep.sameStorage {s t : State} (h : EvalStep s t) : SameStorage s t := by
  cases h with
  | armed | idled => exact ⟨rfl, rfl, rfl⟩
  | fired _ _ _ _ _ env | raised _ _ _ env | blocked _ _ _ _ env =>
    obtain ⟨_, _, _, _, rfl⟩ := env
    exact ⟨rfl, rfl, rfl⟩

/-- Settles O57: each stored buffer is written by one way a request can go, which is its row's. -/
theorem storedBuffersHaveOneWriterEach : Obligations.StoredBuffersHaveOneWriterEach := by
  intro s t r rest i h decoded did
  have how := h.ran_as decoded did
  cases how with
  | answered => exact ⟨fun _ => rfl, fun _ => rfl, fun _ => rfl⟩
  | read _ _ _ k =>
    obtain ⟨n, drawn⟩ := paramRead_state k (beginRequest { s with inputs := rest })
    rw [drawn]
    exact ⟨fun _ => rfl, fun _ => rfl, fun _ => rfl⟩
  | wrote sub index data => exact ⟨fun other => absurd rfl (other sub index data), fun _ => rfl, fun _ => rfl⟩
  | output ss data => exact ⟨fun _ => rfl, fun other => absurd rfl (other ss data), fun _ => rfl⟩
  | input ss =>
    obtain ⟨n, computed, _⟩ := computeInput_spec (beginRequest { s with inputs := rest })
    rw [computed]
    exact ⟨fun _ => rfl, fun _ => rfl, fun other => absurd rfl (other ss)⟩
  | evaluated _ data =>
    obtain ⟨params, sigOutput, sigInput⟩ :=
      (smEval_step (b := data) (s := beginRequest { s with inputs := rest }) h.accepting.1 h.accepting.2
        rfl).sameStorage
    obtain ⟨x, responded⟩ := respondIfComplete_eq (smEval data (beginRequest { s with inputs := rest }))
    rw [responded]
    exact ⟨fun _ => params, fun _ => sigOutput, fun _ => sigInput⟩

/-! ### Who writes `backend_up` and `fatal` (R161, R263, R268) -/

/-- R93: a latch of REBOOT's class decodes to it. -/
theorem decode_latchWord_of_reboot {s : State} (reboot : classOf s.cfg s.latchedCommand = .reboot) :
    decode s.cfg s.pending (.latched (latchWord s)) = .ok (.dispatchReboot s.latchedParameter) := by
  rw [latchWord, decode_latchedWord, dispatchOf, reboot]

/-- R161: an evaluation that changes `backend_up` fired a REBOOT. -/
theorem EvalStep.booted_of_backendUp_ne {s t : State} (h : EvalStep s t) (changed : t.backendUp ≠ s.backendUp) :
    t.backendUp = true ∧ s.pending = true ∧ classOf s.cfg s.latchedCommand = .reboot ∧
      t.backendCalls = s.backendCalls ++ [BackendCall.shutdown, .initBackend] := by
  cases h with
  | armed | idled => exact absurd rfl changed
  | fired _ _ _ _ pending env _ _ _ boot =>
    obtain same | ⟨up, reboot, rfl⟩ := boot
    · exact absurd same changed
    · exact ⟨up, pending, reboot, env.backendCalls⟩
  | raised _ _ _ env | blocked _ _ _ _ env =>
    obtain ⟨_, _, _, _, rfl⟩ := env
    exact absurd rfl changed

/-- R263: an evaluation that raises Fatal fired a REBOOT, and nothing else of it was committed. -/
theorem EvalStep.raised_of_fatal {s t : State} (h : EvalStep s t) (ok : s.fatal = false) (fatal : t.fatal = true) :
    s.pending = true ∧ classOf s.cfg s.latchedCommand = .reboot ∧
      ∃ u, EnvStep [.shutdown, .initBackend] s u ∧ t = raiseFatal u := by
  cases h with
  | raised u pending reboot env => exact ⟨pending, reboot, u, env, rfl⟩
  | armed | idled => cases ok.symm.trans fatal
  | fired _ _ _ _ _ env | blocked _ _ _ _ env =>
    obtain ⟨_, _, _, _, rfl⟩ := env
    cases ok.symm.trans fatal

/-- Settles O58: of all steps, only a reset and an evaluation that fires a REBOOT change `backend_up`. -/
theorem backendUpChangesOnlyAtResetOrReboot : Obligations.BackendUpChangesOnlyAtResetOrReboot := by
  intro s t did changed
  obtain ⟨_, how⟩ := step_cases did
  cases how with
  | waits | ignored => exact absurd rfl changed
  | resets rest head => exact .inl ⟨rest, head, rfl⟩
  | ran r rest i t head ok free _ _ how =>
    obtain ⟨same, _⟩ | ⟨_, data, _, _, rfl⟩ := how.answered_or_evaluated
    · exact absurd same.backendUp changed
    · obtain ⟨x, responded⟩ := respondIfComplete_eq (smEval data (beginRequest { s with inputs := rest }))
      rw [responded] at changed ⊢
      obtain ⟨up, pending, reboot, calls⟩ :=
        (smEval_step (b := data) (s := beginRequest { s with inputs := rest }) ok free
          rfl).booted_of_backendUp_ne changed
      exact .inr ⟨up, pending, decode_latchWord_of_reboot reboot, calls⟩

/-- Settles O59: an evaluation alone raises Fatal, by firing a REBOOT; a reset alone clears it. -/
theorem fatalComesOnlyFromRebootAndStays : Obligations.FatalComesOnlyFromRebootAndStays := by
  intro s t did
  obtain ⟨_, how⟩ := step_cases did
  cases how with
  | waits =>
    exact ⟨fun ok fatal => (nomatch ok.symm.trans fatal), fun fatal ok => (nomatch ok.symm.trans fatal)⟩
  | resets rest head => exact ⟨nofun, fun _ _ => ⟨rest, head⟩⟩
  | ignored _ _ _ fatal => exact ⟨fun ok => (nomatch ok.symm.trans fatal), fun _ ok => (nomatch ok.symm.trans fatal)⟩
  | ran r rest i t head ok free _ _ how =>
    refine ⟨fun _ fatal => ?_, fun fatal => (nomatch ok.symm.trans fatal)⟩
    obtain ⟨same, _⟩ | ⟨_, data, _, _, rfl⟩ := how.answered_or_evaluated
    · cases ok.symm.trans (same.fatal.symm.trans fatal)
    · have evaluated := smEval_step (b := data) (s := beginRequest { s with inputs := rest }) ok free rfl
      have raised : (smEval data (beginRequest { s with inputs := rest })).fatal = true := by
        obtain ⟨x, responded⟩ := respondIfComplete_eq (smEval data (beginRequest { s with inputs := rest }))
        rwa [responded] at fatal
      obtain ⟨pending, reboot, u, env, is⟩ := evaluated.raised_of_fatal ok raised
      rw [is, respondIfComplete_aborted (by simp [State.aborted])]
      obtain ⟨_, _, _, _, rfl⟩ := env
      exact ⟨pending, decode_latchWord_of_reboot reboot, rfl, rfl, ⟨rfl, rfl, rfl, rfl, rfl⟩, ⟨rfl, rfl, rfl⟩, rfl⟩

/-! ### The invariant (R20, R22, R26, R27, R33, R91, R133, R160 to R163, R232, R263) -/

/-- A reset state meets the invariant, whatever the configuration. -/
theorem resetEvent_inv (s : State) : Inv (resetEvent s) where
  memory := resetEvent_wf s
  operational := nofun
  busyIsPending := nofun
  pendingIsFresh := nofun
  fatalIsPending := nofun
  blockedIsPending := nofun
  notBoth := nofun
  downFromReset := id
  noResult := rfl
  calls := Nat.zero_le 2
  errorsAreBare := fun _ answer => nomatch answer
  rlenFits := fun _ answer => nomatch answer

/-- Settles O52: the state right after reset is the one a reset leaves. -/
theorem resetMeetsTheInvariant : Obligations.ResetMeetsTheInvariant := fun c => resetEvent_inv (State.resetOf c)

/-- Taking an event and clearing the outputs keeps the invariant. -/
theorem Inv.beginRequest {s : State} (h : Inv s) (rest : List PortEvent) :
    Inv (beginRequest { s with inputs := rest }) where
  __ := h
  calls := Nat.zero_le 2
  errorsAreBare := fun _ answer => nomatch answer
  rlenFits := fun _ answer => nomatch answer

/-- A response that is bare unless OK, and whose length fits `rlen`, keeps the invariant. -/
theorem Inv.respond {s : State} {r : Resp} (h : Inv s) (bare : r.code ≠ .ok → r = bareResp r.code)
    (len : r.rdata.length < 2 ^ 16) : Inv (respond r s) where
  __ := h
  errorsAreBare := by
    rintro _ ⟨⟩
    exact bare
  rlenFits := by
    rintro _ ⟨⟩
    exact Nat.mod_eq_of_lt len

/-- R8: an entry's length fits `rlen`. -/
theorem expectedLength_lt {c : Cfg} (wf : c.wf = true) (k : Nat) : expectedLength c k < 2 ^ 16 := by
  cases entry : c.descriptors[k]? with
  | none => simp [expectedLength, entry]
  | some d =>
    obtain ⟨_, le⟩ := (cfg_wf_iff.1 wf).1.lengths d (List.mem_of_getElem? entry)
    rw [expectedLength_of entry]
    omega

/-- An evaluation of the state machine keeps the invariant, whether it completes or not. -/
theorem EvalStep.inv {s t : State} (h : EvalStep s t) (inv : Inv s) (accepting : s.accepting)
    (uncalled : s.backendCalls = []) : Inv t := by
  obtain ⟨ok, free⟩ := accepting
  cases h with
  | armed =>
    exact { inv with
      operational := fun _ => rfl, busyIsPending := fun _ => rfl, pendingIsFresh := fun _ => rfl,
      fatalIsPending := fun _ => rfl, blockedIsPending := fun _ => rfl }
  | idled notPending =>
    exact { inv with
      operational := fun _ => rfl, busyIsPending := fun _ => notPending.symm, pendingIsFresh := fun _ => rfl }
  | fired calls u st up pending env two op notBusy boot =>
    obtain ⟨_, _, _, _, rfl⟩ := env
    exact { inv with
      operational := fun _ => op
      busyIsPending := fun _ => notBusy
      pendingIsFresh := nofun
      fatalIsPending := fun fatal => nomatch ok.symm.trans fatal
      blockedIsPending := fun blocked => by simp [free] at blocked
      downFromReset := by
        rintro rfl
        obtain same | ⟨up, _⟩ := boot
        · exact inv.downFromReset same.symm
        · cases up
      noResult := rfl
      calls := by simpa [uncalled] using two }
  | raised u pending reboot env =>
    obtain ⟨_, _, _, _, rfl⟩ := env
    exact { inv with
      fatalIsPending := fun _ => pending
      notBoth := fun _ => free
      noResult := rfl
      calls := by simp [uncalled]
      errorsAreBare := fun _ answer => nomatch answer
      rlenFits := fun _ answer => nomatch answer }
  | blocked calls call u pending env two =>
    obtain ⟨_, _, _, _, rfl⟩ := env
    exact { inv with
      blockedIsPending := fun _ => pending
      notBoth := fun fatal => nomatch ok.symm.trans fatal
      noResult := rfl
      calls := by simpa [uncalled] using two
      errorsAreBare := fun _ answer => nomatch answer
      rlenFits := fun _ answer => nomatch answer }

/-- A request, once begun, keeps the invariant. -/
theorem RequestStep.inv {s t : State} {i : Instr} (h : RequestStep s i t) (inv : Inv s) (wf : s.cfg.wf = true)
    (accepting : s.accepting) (uncalled : s.backendCalls = []) : Inv t := by
  cases h with
  | answered _ r bare len => exact inv.respond bare (by omega)
  | read _ _ _ k =>
    obtain ⟨memory, len⟩ := paramRead_wf (k := k) inv.memory
    obtain ⟨n, drawn⟩ := paramRead_state k s
    have read : Inv (paramRead k s).2 := by
      rw [drawn]
      exact { inv with }
    exact read.respond (absurd rfl) (len ▸ expectedLength_lt wf k)
  | wrote _ _ data k _ len =>
    have wrote : Inv (paramWrite k data s) := { inv with memory := paramWrite_wf inv.memory len }
    exact wrote.respond (absurd rfl) (Nat.two_pow_pos 16)
  | output _ data len =>
    have wrote : Inv (setOutput data s) := { inv with memory := setOutput_wf inv.memory len }
    exact wrote.respond (absurd rfl) (Nat.two_pow_pos 16)
  | input =>
    obtain ⟨n, computed, len⟩ := computeInput_spec s
    have memory := computeInput_wf inv.memory
    have wrote : Inv (computeInput s).2 := by
      rw [computed] at memory ⊢
      exact { inv with memory := memory }
    exact wrote.respond (absurd rfl) (by rw [dataResp, len]; decide)
  | evaluated _ data =>
    have evaluated := (smEval_step (b := data) accepting.1 accepting.2 rfl).inv inv accepting uncalled
    cases aborted : (smEval data s).aborted with
    | true => rwa [respondIfComplete_aborted aborted]
    | false =>
      rw [respondIfComplete_completed aborted]
      exact evaluated.respond (absurd rfl) (Nat.two_pow_pos 16)

/-- Settles O53: case by case of what a step can be. -/
theorem everyStepKeepsTheInvariant : Obligations.EveryStepKeepsTheInvariant := by
  intro s t inv did
  obtain ⟨wf, how⟩ := step_cases did
  cases how with
  | waits => exact inv
  | resets rest => exact resetEvent_inv _
  | ignored _ rest => exact inv.beginRequest rest
  | ran r rest i t head ok free decoded did how => exact how.inv (inv.beginRequest rest) wf ⟨ok, free⟩ rfl

end Sys2Proof.Machine


namespace Sys2Proof.Machine

/-! ### Words and first values (R37, R81, R88, R90, R93, R292) -/

/-- Settles O2: each word decodes by evaluation, and each is a case of its own. -/
theorem wordsDecodeToTheirRows : Obligations.WordsDecodeToTheirRows := by
  refine ⟨?_, ?_, ?_, ?_, ?_, ?_, ?_, ?_, ?_, ?_, ?_, ?_⟩ <;> decide

/-- R37: every parameter entry is unwritten right after reset. -/
theorem resetOf_params_unwritten (c : Cfg) (k : Nat) : (State.resetOf c).params.getD k none = none := by
  rw [State.resetOf, List.getD_eq_getElem?_getD, List.getElem?_map]
  cases c.descriptors[k]? <;> rfl

/-- Settles O14: no evaluation has completed right after reset, so the status read answers READY. -/
theorem firstStatusAfterResetIsReady : Obligations.FirstStatusAfterResetIsReady := by
  intro c subslot
  obtain ⟨_, ready⟩ := statusInputReportsTheStatusOrReady subslot (State.resetOf c)
  exact ⟨rfl, rfl, rfl, rfl, rfl, resetOf_params_unwritten c, ready rfl⟩

/-! ### FIRE (R133) -/

/-- R150: the row that a code selects runs as its dispatch. -/
theorem exec_dispatchOf (code : BitVec 8) (p : BitVec 23) (s : State) :
    exec (dispatchOf s.cfg code p) s = .next (dispatch code p s) := by
  unfold dispatchOf dispatch
  cases classOf s.cfg code <;> rfl

/-- R133: CMDREG.RELEASE_FIRE is `FIRE()`, which takes nothing of the image. -/
theorem exec_cmdregReleaseFire (c : BitVec 8) (p : BitVec 23) (s : State) :
    exec (.cmdregReleaseFire c p) s = .next (fire s) := rfl

theorem commitFire_of_result {s : State} {st : StatusReg} (result : s.dispatchResult = some st) :
    commitFire s = { s with status := st, pending := false, dispatchResult := none } := by
  simp only [commitFire, result]

theorem commitFire_of_none {s : State} (result : s.dispatchResult = none) : commitFire s = s := by
  simp only [commitFire, result]

/-- Settles O18: the latch decodes to its dispatch, whose frame keeps the latch, and `fire` commits what it returned. -/
theorem fireCommitsTheDispatchedStatus : Obligations.FireCommitsTheDispatchedStatus := by
  intro c p s i decoded
  rw [latchWord, decode_latchedWord, Decoded.ok.injEq] at decoded
  subst decoded
  have frame := (dispatch_step (s := s) (c := s.latchedCommand) (p := s.latchedParameter) rfl).sameButBackend
  refine ⟨_, exec_dispatchOf .., frame.execution.latchedCommand, frame.execution.latchedParameter, fun st result => ?_,
    fun result => ?_⟩
  · rw [exec_cmdregReleaseFire, fire, commitFire_of_result result]
  · rw [exec_cmdregReleaseFire, fire, commitFire_of_none result]

/-! ### The consume of an image (R130, R135, R235) -/

/-- R130: the transition that an image selects. -/
def transition (r : CommandReg) (s : State) : State :=
  if r.execute then arm r.command r.parameter s else if s.pending then fire s else idle s

theorem smEval_eq_transition (b : Bytes) (s : State) :
    smEval b s = markFresh (transition (commandFields (be32 b)) s) := rfl

theorem exec_transitionOf (r : CommandReg) (s : State) :
    exec (transitionOf s.pending r) s = .next (transition r s) := by
  unfold transitionOf transition
  split
  · rfl
  · split <;> rfl

/-- R135, R235: an evaluation that completes marks the status fresh and is answered OK. -/
theorem finish_of_accepting {t : State} (completed : t.accepting) :
    respondIfComplete (markFresh t) = { t with statusIsFresh := true, response := some (dataResp [] false) } := by
  have fresh : ({ t with statusIsFresh := true } : State).aborted = false := aborted_eq_false_iff.2 completed
  rw [markFresh_completed (aborted_eq_false_iff.2 completed), respondIfComplete_completed fresh, respond]

/-- R162, R263: one that does not complete has no more effect. -/
theorem finish_of_not_accepting {t : State} (stopped : ¬ t.accepting) : respondIfComplete (markFresh t) = t := by
  have aborted : t.aborted = true := by rwa [← aborted_eq_false_iff, Bool.not_eq_false] at stopped
  rw [markFresh_aborted aborted, respondIfComplete_aborted aborted]

/-- R235 on four bytes: the image's transition, and then its end. -/
theorem exec_consumeOutputCmd_eq {data : Bytes} (four : data.length = 4) (subslot : Nat) (s : State) :
    exec (.consumeOutputCmd subslot data) s =
      .next (respondIfComplete (markFresh (transition (commandFields (be32 data)) s))) := by
  rw [exec_consumeOutputCmd_of_length four, smEval_eq_transition]

/-- R162, R263: an evaluation that does not complete gives no response. -/
theorem response_of_stopped {b : Bytes} {s : State} (accepting : s.accepting)
    (stopped : ¬ (transition (commandFields (be32 b)) s).accepting) :
    (transition (commandFields (be32 b)) s).response = none := by
  have same : smEval b s = transition (commandFields (be32 b)) s := by
    rw [smEval_eq_transition, markFresh_aborted]
    rwa [← aborted_eq_false_iff, Bool.not_eq_false] at stopped
  obtain completed | ⟨unanswered, _⟩ | ⟨unanswered, _⟩ := (smEval_step accepting.1 accepting.2 same).outcome accepting
  · exact absurd completed stopped
  · exact unanswered
  · exact unanswered

/-- Settles O19: the image decodes to its transition, and the consume ends it. -/
theorem consumeEvaluatesItsImage : Obligations.ConsumeEvaluatesItsImage := by
  intro subslot data s i accepting four decoded
  rw [decode, decodeImage, decodeCommand_of_length four] at decoded
  cases decoded
  refine ⟨_, exec_transitionOf .., fun completed => ?_, fun stopped => ⟨?_, response_of_stopped accepting stopped⟩⟩
  · rw [exec_consumeOutputCmd_eq four, finish_of_accepting completed]
    rfl
  · rw [exec_consumeOutputCmd_eq four, finish_of_not_accepting stopped]

/-! ### Command consumes without the backend (R132 to R135, R152, R153, R155, R157) -/

/-- R235 on the wire image of a command. -/
theorem exec_consumeOutputCmd_encodeCommand (subslot : Nat) (r : CommandReg) (s : State) :
    exec (.consumeOutputCmd subslot (encodeCommand r)) s = .next (respondIfComplete (markFresh (transition r s))) := by
  rw [exec_consumeOutputCmd_eq (by rfl), commandFields_be32_encodeCommand]

/-- The classes whose dispatch returns at once, without a call: NOP, LOCAL, PING, and FORWARD with the backend down. -/
theorem dispatch_without_backend {s : State} {code : BitVec 8} {st : StatusReg} (wf : s.cfg.wf = true)
    (returns : (code = s.cfg.cmdNop ∨ code ∈ s.cfg.localUndefinedCodes) ∧ st = statusUndefined s.cfg ∨
      code = s.cfg.cmdPing ∧ st = statusPingReply s.cfg ∨
      code ≠ s.cfg.cmdNop ∧ code ∉ s.cfg.localUndefinedCodes ∧ code ≠ s.cfg.cmdReboot ∧ code ≠ s.cfg.cmdPing ∧
        s.backendUp = false ∧ st = statusInternalError s.cfg) (p : BitVec 23) :
    dispatch code p s = returnStatus st s := by
  obtain ⟨rfl | isLocal, rfl⟩ | ⟨rfl, rfl⟩ | ⟨notNop, notLocal, notReboot, notPing, down, rfl⟩ := returns
  · rw [dispatch, classOf_nop, dispatchNop]
  · rw [dispatch, classOf_local wf isLocal, dispatchLocal]
  · rw [dispatch, classOf_ping wf, dispatchPing]
  · rw [dispatch, classOf_forward notNop notLocal notReboot notPing]
    exact dispatchForward_of_backendDown down code p

/-- Settles O20: each transition completes from an accepting state, and its effect is written out. -/
theorem commandConsumesCompleteWithoutTheBackend : Obligations.CommandConsumesCompleteWithoutTheBackend := by
  intro subslot c p s wf accepting
  simp only [exec_consumeOutputCmd_encodeCommand, exec_cmdregReleaseFire]
  refine ⟨?_, fun idles => ?_, fun st pending returns => ?_⟩
  · have arms : transition ⟨true, c, p⟩ s = arm c p s := rfl
    rw [arms, finish_of_accepting (t := arm c p s) accepting]
    rfl
  · have releases : transition ⟨false, c, p⟩ s = idle s := by
      simp only [transition, idles, Bool.false_eq_true, if_false]
    rw [releases, finish_of_accepting (t := idle s) accepting]
    rfl
  · have fires : fire s = { s with status := st, pending := false, dispatchResult := none } := by
      rw [fire, dispatch_without_backend wf returns, commitFire_returnStatus]
    have completes : (fire s).accepting := fires ▸ accepting
    have releases : transition ⟨false, c, p⟩ s = fire s := by
      simp only [transition, pending, Bool.false_eq_true, if_false, if_true]
    rw [releases, finish_of_accepting completes, fires]
    exact ⟨rfl, rfl⟩

/-! ### Any number of asserted images, and a release (R136) -/

/-- The state after an asserted image is consumed, with the events still to come. -/
def assertedBy (c : BitVec 8) (p : BitVec 23) (rest : List PortEvent) (s : State) : State :=
  { s with
    inputs := rest, latchedCommand := c, latchedParameter := p, pending := true, status := statusBusy s.cfg,
    statusIsFresh := true, response := some (dataResp [] false), backendCalls := [] }

/-- A request to the command submodule that fits its fields is presented. -/
theorem presented_consumeCmd {s : State} {data : Bytes} {rest : List PortEvent} (wf : s.cfg.wf = true)
    (accepting : s.accepting) (head : s.inputs = .request (consumeReq s.cfg.cmdSub 0 data) :: rest)
    (fits : data.length < 2 ^ 16) : Presented s (consumeReq s.cfg.cmdSub 0 data) rest :=
  ⟨wf, accepting, head, consumeReq_representable (cfg_wf_iff.1 wf).2.cmdSub (Nat.two_pow_pos _) fits⟩

/-- R234: it runs as a consume of the command submodule. -/
theorem step_consumeCmd {s : State} {data : Bytes} {rest : List PortEvent} (wf : s.cfg.wf = true)
    (accepting : s.accepting) (head : s.inputs = .request (consumeReq s.cfg.cmdSub 0 data) :: rest)
    (fits : data.length < 2 ^ 16) :
    step s = exec (.consumeOutputCmd 0 data) (beginRequest { s with inputs := rest }) := by
  have decoded := decode_consumeReq s.pending (cfg_wf_iff.1 wf).2.cmdSub (Nat.two_pow_pos _) fits
  rw [route_cmd rfl] at decoded
  exact step_of_presented (presented_consumeCmd wf accepting head fits) decoded

/-- R132, R136: an asserted image is latched. -/
theorem step_arm {s : State} {c : BitVec 8} {p : BitVec 23} {rest : List PortEvent} (wf : s.cfg.wf = true)
    (accepting : s.accepting) (head : s.inputs = .request (Pseudo.arm s.cfg c p) :: rest) :
    step s = .next (assertedBy c p rest s) := by
  rw [step_consumeCmd wf accepting head (by rw [encodeCommand, be32bytes_length]; decide),
    (commandConsumesCompleteWithoutTheBackend 0 c p (beginRequest { s with inputs := rest }) wf accepting).1]
  rfl

/-- R136: after a run over asserted images, the last one is latched. No other has left a trace, because an asserted
image overwrites all that the one before it wrote. -/
theorem run_arms {s : State} {earlier : List (BitVec 8 × BitVec 23)} {c : BitVec 8} {p : BitVec 23}
    {rest : List PortEvent} (wf : s.cfg.wf = true) (accepting : s.accepting)
    (asserted : s.inputs = (earlier ++ [(c, p)]).map (fun x => .request (Pseudo.arm s.cfg x.1 x.2)) ++ rest) :
    Host.Core.run core (earlier.length + 1) s = .next (assertedBy c p rest s) := by
  induction earlier generalizing s with
  | nil => exact run_succ 0 (step_arm wf accepting asserted)
  | cons x earlier ih =>
    have first := step_arm wf accepting asserted
    exact (run_succ _ first).trans (ih (s := assertedBy x.1 x.2 _ s) wf accepting rfl)

/-- A run of one more step is a run, and then that step. -/
theorem run_snoc {s t u : State} {n : Nat} (h : Host.Core.run core n s = .next t) (last : step t = .next u) :
    Host.Core.run core (n + 1) s = .next u := by
  induction n generalizing s with
  | zero =>
    cases h
    exact run_succ 0 last
  | succ n ih =>
    obtain ⟨v, first, rest⟩ := run_succ_inv h
    exact (run_succ _ first).trans (ih rest)

/-- A dispatch that does not complete returned no status. -/
theorem DispatchStep.result_of_stopped {k : DispatchClass} {s t : State} (h : DispatchStep k s t)
    (accepting : s.accepting) (stopped : ¬ t.accepting) : t.dispatchResult = none := by
  cases h with
  | returned _ _ _ env | booted _ _ _ env =>
    obtain ⟨_, _, _, _, rfl⟩ := env
    exact absurd accepting stopped
  | raised | blocked => rfl

/-- R133, R136: a release after an asserted image is a fire of its latch. -/
theorem step_release {s : State} {rest : List PortEvent} (wf : s.cfg.wf = true) (accepting : s.accepting)
    (head : s.inputs = .request (Pseudo.release s.cfg) :: rest) (pending : s.pending = true) :
    step s = .next (respondIfComplete (markFresh (fire (beginRequest { s with inputs := rest })))) := by
  have released : (commandFields (be32 [0x00, 0x00, 0x00, 0x00])).execute = false := by decide
  have still : (beginRequest { s with inputs := rest }).pending = true := pending
  rw [step_consumeCmd wf accepting head (by decide), exec_consumeOutputCmd_of_released rfl released, still, if_pos rfl]

/-- Settles O23: the run over the images leaves the last one latched; the release dispatches it and ends as the dispatch
does. -/
theorem lastAssertedImageIsTheOneThatFires : Obligations.LastAssertedImageIsTheOneThatFires := by
  intro s earlier c p rest wf accepting inputs
  have armed := run_arms wf accepting inputs
  have released : Host.Core.run core (earlier.length + 2) s =
      .next (respondIfComplete (markFresh (commitFire (dispatch c p (beginRequest (assertedBy c p rest s)))))) :=
    run_snoc armed (step_release (s := assertedBy c p _ s) wf accepting rfl rfl)
  have runs := exec_dispatchOf c p (beginRequest (assertedBy c p rest s))
  have outcome := dispatch_step (s := beginRequest (assertedBy c p rest s)) (c := c) (p := p) rfl
  generalize dispatch c p (beginRequest (assertedBy c p rest s)) = t at released runs outcome
  refine ⟨_, t, armed, rfl, rfl, rfl, rfl, rfl, rfl, rfl, rfl, rfl, runs, fun st result completed => ?_,
    fun stopped => ?_⟩
  · have completes : (commitFire t).accepting := commitFire_of_result result ▸ completed
    rw [released, finish_of_accepting completes, commitFire_of_result result]
    rfl
  · rw [released, commitFire_of_none (outcome.result_of_stopped accepting stopped), finish_of_not_accepting stopped]

end Sys2Proof.Machine


namespace Sys2Proof.Machine

/-! ### The parameter rows, answer by answer (R180 to R182) -/

/-- R180 on an unknown key. -/
theorem exec_writeParameter_of_unknown {sub index : Nat} {s : State} (unknown : lookup s.cfg sub index = none)
    (data : Bytes) : exec (.writeParameter sub index data) s = .next (reject .unknownParameter s) := by
  simp only [exec, execWriteParameter, unknown]

/-- R181 on a known key and another length. -/
theorem exec_writeParameter_of_length_ne {sub index k : Nat} {data : Bytes} {s : State}
    (key : lookup s.cfg sub index = some k) (other : data.length ≠ expectedLength s.cfg k) :
    exec (.writeParameter sub index data) s = .next (reject .lengthMismatch s) := by
  simp only [exec, execWriteParameter, key, other, if_false]

/-- Settles O33: the key is looked up first, and then the length decides. -/
theorem writeParameterStoresVerbatim : Obligations.WriteParameterStoresVerbatim := by
  intro sub index data s wf
  refine ⟨fun unknown => exec_writeParameter_of_unknown (lookup_none.2 unknown) data, fun k d entry key => ?_⟩
  have found : lookup s.cfg sub index = some k := lookup_of_key (decide_eq_true (cfg_wf_iff.1 wf).1.keys) entry key
  rw [← expectedLength_of entry]
  exact ⟨exec_writeParameter_of_length_ne found, exec_writeParameter_of_length found⟩

/-- R180 on an unknown key. -/
theorem exec_readParameter_of_unknown {sub index : Nat} {s : State} (unknown : lookup s.cfg sub index = none)
    (maxLen : BitVec 16) : exec (.readParameter sub index maxLen) s = .next (reject .unknownParameter s) := by
  simp only [exec, execReadParameter, unknown]

/-- R182 on a known key and a buffer that is too small. -/
theorem exec_readParameter_of_small {sub index k : Nat} {maxLen : BitVec 16} {s : State}
    (key : lookup s.cfg sub index = some k) (small : maxLen.toNat < expectedLength s.cfg k) :
    exec (.readParameter sub index maxLen) s = .next (reject .bufferTooSmall s) := by
  simp only [exec, execReadParameter, key, small, if_true]

/-- R27: an unwritten entry reads as a draw of its length. -/
theorem paramRead_unwritten {k : Nat} {s : State} (unwritten : s.params[k]? = some none) :
    paramRead k s = drawBytes (expectedLength s.cfg k) s := by
  simp only [paramRead, List.getD_eq_getElem?_getD, unwritten, Option.getD_some]

/-- R182 on an unwritten entry with room enough. -/
theorem exec_readParameter_of_unwritten {sub index k : Nat} {maxLen : BitVec 16} {s : State}
    (key : lookup s.cfg sub index = some k) (room : expectedLength s.cfg k ≤ maxLen.toNat)
    (unwritten : s.params[k]? = some none) :
    exec (.readParameter sub index maxLen) s =
      .next (respond (dataResp (drawBytes (expectedLength s.cfg k) s).1 false)
        (drawBytes (expectedLength s.cfg k) s).2) := by
  simp only [exec, execReadParameter, key, Nat.not_lt.2 room, if_false, paramRead_unwritten unwritten]

/-- Settles O34: the key is looked up first, then the room decides, and then the unwritten mark. -/
theorem readParameterReturnsTheEntry : Obligations.ReadParameterReturnsTheEntry := by
  intro sub index maxLen s wf
  refine ⟨fun unknown => exec_readParameter_of_unknown (lookup_none.2 unknown) maxLen, fun k d entry key => ?_⟩
  have found : lookup s.cfg sub index = some k := lookup_of_key (decide_eq_true (cfg_wf_iff.1 wf).1.keys) entry key
  rw [← expectedLength_of entry]
  refine ⟨exec_readParameter_of_small found, fun b room written => exec_readParameter_of_written found room written,
    fun room unwritten => ⟨_, s.draws + 1, drawBytes_length _ s, ?_⟩⟩
  rw [exec_readParameter_of_unwritten found room unwritten, drawBytes_state, respond, dataResp]

/-! ### The signal rows (R200 to R208, R236, R239) -/

/-- R236 on eight bytes. -/
theorem exec_consumeOutputSig_of_length {data : Bytes} (eight : data.length = 8) (subslot : Nat) (s : State) :
    exec (.consumeOutputSig subslot data) s = .next (respond (dataResp [] false) (setOutput data s)) := by
  rw [exec_consumeOutputSig, if_pos eight]

/-- Settles O37: `setOutput` stores the bytes, and `respond` answers OK. -/
theorem signalOutputIsStoredVerbatim : Obligations.SignalOutputIsStoredVerbatim := by
  intro subslot data s eight
  rw [exec_consumeOutputSig_of_length eight, setOutput, respond, dataResp]

/-- Settles O39: `compute_input` gives 8 bytes and writes them to `sig_input`; it may draw, and writes nothing else. -/
theorem signalInputAlwaysAnswersEightBytes : Obligations.SignalInputAlwaysAnswersEightBytes := by
  intro subslot s
  obtain ⟨n, computed, eight⟩ := computeInput_spec s
  refine ⟨(computeInput s).1, n, eight, ?_⟩
  rw [exec_produceInputSig, computed, respond, dataResp]

/-- R204 where the product is no NaN: its pattern, and no draw. -/
theorem floatProduct_of_some {fb g w : Word} {s : State} (product : fmul s.cfg.fmulMode fb g = some w) :
    floatProduct fb g s = (w, s) := by
  simp only [floatProduct, product]

/-- R206 where it is a NaN: a drawn quiet NaN. -/
theorem floatProduct_of_none {fb g : Word} {s : State} (nan : fmul s.cfg.fmulMode fb g = none) :
    floatProduct fb g s = (quietNaN (Config.freeNaNBits s.draws), { s with draws := s.draws + 1 }) := by
  simp only [floatProduct, nan]

/-- The state after a signal input that draws nothing and answers `r` (R208, R239). -/
def inputAnswered (r : Bytes) (s : State) : State := { s with sigInput := r, response := some (dataResp r true) }

/-- R201, R208, R239 with the operands written and no NaN: the two products are answered and kept; nothing is drawn. -/
theorem exec_produceInputSig_of_product {s : State} {i f g w : Word} (output : s.sigOutput = some (signalBuffer i f))
    (gain : s.params[gainEntry s.cfg]? = some (some (be32bytes g))) (product : fmul s.cfg.fmulMode f g = some w)
    (subslot : Nat) : exec (.produceInputSig subslot) s = .next (inputAnswered (signalBuffer (i * g) w) s) := by
  rw [exec_produceInputSig, computeInput_of_written output gain, floatProduct_of_some product, intProduct, respond,
    inputAnswered]

/-- Settles O38: the bytes are those of the two fields and the gain, whose products `compute_input` gives. -/
theorem signalInputMultipliesBothChannels : Obligations.SignalInputMultipliesBothChannels := by
  intro subslot s k d o0 o1 o2 o3 o4 o5 o6 o7 g0 g1 g2 g3 f wf entry key output gain product
  have fields : s.sigOutput = some (signalBuffer (o0 ++ o1 ++ o2 ++ o3) (o4 ++ o5 ++ o6 ++ o7)) := by
    rw [signalBuffer, be32bytes_append, be32bytes_append]
    exact output
  have atGain : s.params[gainEntry s.cfg]? = some (some (be32bytes (g0 ++ g1 ++ g2 ++ g3))) := by
    rwa [gainEntry_of_wf wf entry key, be32bytes_append]
  rw [exec_produceInputSig_of_product fields atGain product, inputAnswered, dataResp, signalBuffer]

/-- R206: exponent 255 and fraction bit 22, whatever was drawn. -/
theorem quietNaN_quiet (free : BitVec 23) : (quietNaN free).extractLsb' 22 9 = 0x1FF#9 := by
  rw [quietNaN, BitVec.extractLsb'_append_eq_of_le (Nat.le_refl 22), Nat.sub_self,
    BitVec.extractLsb'_append_eq_of_add_le (Nat.le_refl 9), BitVec.extractLsb'_eq_self]

/-- Settles O41: the drawn pattern is the second field of the answer. -/
theorem nanProductIsSomeQuietNaN : Obligations.NaNProductIsSomeQuietNaN := by
  intro subslot s k d i f g wf entry key gain output nan
  have atGain : s.params[gainEntry s.cfg]? = some (some (be32bytes g)) := by rwa [gainEntry_of_wf wf entry key]
  have second : (computeInput s).1.drop 4 = be32bytes (quietNaN (Config.freeNaNBits s.draws)) := by
    rw [computeInput_of_written output atGain, floatProduct_of_none nan, signalBuffer]
    exact List.drop_left' (be32bytes_length _)
  exact ⟨_, _, _, exec_produceInputSig subslot s, rfl, rfl, second, quietNaN_quiet _⟩

/-- Settles O42: the second input reads the operands that the first one read, and writes what it wrote. -/
theorem repeatedSignalInputIsIdempotent : Obligations.RepeatedSignalInputIsIdempotent := by
  intro subslot s t k d i f g wf entry key gain output notNaN first
  have atGain : s.params[gainEntry s.cfg]? = some (some (be32bytes g)) := by rwa [gainEntry_of_wf wf entry key]
  obtain ⟨w, product⟩ := Option.ne_none_iff_exists'.1 notNaN
  rw [exec_produceInputSig_of_product output atGain product] at first
  cases first
  exact exec_produceInputSig_of_product (s := inputAnswered _ s) output atGain product subslot

/-! ### Gain, output, input: three steps (R202, R300) -/

/-- R181 at the port: a presented write of a known key and its length is stored. -/
theorem step_write {s : State} {sub index k : Nat} {d : Descriptor} {data : Bytes} {rest : List PortEvent}
    (wf : s.cfg.wf = true) (accepting : s.accepting) (head : s.inputs = .request (writeReq sub index data) :: rest)
    (entry : s.cfg.descriptors[k]? = some d) (key : d.key = (sub, index)) (len : data.length = d.expectedLengthBytes) :
    step s = .next (respond (dataResp [] false) (paramWrite k data (beginRequest { s with inputs := rest }))) := by
  obtain ⟨wellFormed, widths⟩ := cfg_wf_iff.1 wf
  have mem := List.mem_of_getElem? entry
  obtain ⟨hsub, hindex⟩ := widths.keys d mem
  obtain ⟨rfl, rfl⟩ := Prod.mk.inj key
  have fits : data.length < 2 ^ 16 := len ▸ Nat.lt_succ_of_le (wellFormed.lengths d mem).2
  have representable := writeReq_representable hsub hindex fits
  have decoded := decode_req_of_op (op := 0x2) s.pending rfl representable
  rw [step_of_presented ⟨wf, accepting, head, representable⟩ decoded]
  exact exec_writeParameter_of_length (lookup_of_wf wf entry) (len.trans (expectedLength_of entry).symm)

/-- R200 at the port: a presented signal output of 8 bytes is stored. -/
theorem step_consumeSig {s : State} {data : Bytes} {rest : List PortEvent} (wf : s.cfg.wf = true)
    (accepting : s.accepting) (head : s.inputs = .request (consumeReq s.cfg.sigSub 0 data) :: rest)
    (eight : data.length = 8) :
    step s = .next (respond (dataResp [] false) (setOutput data (beginRequest { s with inputs := rest }))) := by
  obtain ⟨wellFormed, widths⟩ := cfg_wf_iff.1 wf
  have fits : data.length < 2 ^ 16 := by omega
  have representable := consumeReq_representable widths.sigSub (Nat.two_pow_pos s.cfg.subslotW) fits
  have decoded := decode_consumeReq s.pending widths.sigSub (Nat.two_pow_pos s.cfg.subslotW) fits
  rw [route_sig wellFormed.submodules rfl] at decoded
  rw [step_of_presented ⟨wf, accepting, head, representable⟩ decoded, exec_consumeOutputSig_of_length eight]

/-- R239 at the port: a presented signal input is computed. -/
theorem step_produceSig {s : State} {rest : List PortEvent} (wf : s.cfg.wf = true)
    (accepting : s.accepting) (head : s.inputs = .request (produceReq s.cfg.sigSub 0) :: rest) :
    step s = .next (respond (dataResp (computeInput (beginRequest { s with inputs := rest })).1 true)
      (computeInput (beginRequest { s with inputs := rest })).2) := by
  obtain ⟨wellFormed, widths⟩ := cfg_wf_iff.1 wf
  have representable := produceReq_representable widths.sigSub (Nat.two_pow_pos s.cfg.subslotW)
  have decoded := decode_produceReq s.pending widths.sigSub (Nat.two_pow_pos s.cfg.subslotW)
  rw [route_sig wellFormed.submodules rfl] at decoded
  rw [step_of_presented ⟨wf, accepting, head, representable⟩ decoded, exec_produceInputSig]

/-- R202, R300: after a gain write, the gain is stored for the next step. -/
theorem step_setGain {s : State} {g : Word} {rest : List PortEvent} (wf : s.cfg.wf = true) (accepting : s.accepting)
    (memory : Memory.wf s = true) (head : s.inputs = .request (Pseudo.setGain s.cfg g) :: rest) :
    ∃ t, step s = .next t ∧ t.cfg = s.cfg ∧ t.accepting ∧ t.inputs = rest ∧
      t.params[gainEntry s.cfg]? = some (some (be32bytes g)) := by
  obtain ⟨d, mem, key, four⟩ := (cfg_wf_iff.1 wf).1.gain
  obtain ⟨k, entry⟩ := List.mem_iff_getElem?.1 mem
  obtain ⟨inRange, _⟩ := List.getElem?_eq_some_iff.1 entry
  rw [gainEntry_of_wf wf entry key]
  refine ⟨_, step_write wf accepting head entry key four.symm, rfl, accepting, rfl, ?_⟩
  exact List.getElem?_set_self (by rwa [beginRequest_params, params_length_of_wf memory])

/-- R300: after a signal output, both its fields are stored for the next step, and the parameters are as before. -/
theorem step_sigOut {s : State} {i f : Word} {rest : List PortEvent} (wf : s.cfg.wf = true) (accepting : s.accepting)
    (head : s.inputs = .request (Pseudo.sigOut s.cfg i f) :: rest) :
    ∃ t, step s = .next t ∧ t.cfg = s.cfg ∧ t.accepting ∧ t.inputs = rest ∧ t.params = s.params ∧
      t.sigOutput = some (signalBuffer i f) :=
  ⟨_, step_consumeSig wf accepting head rfl, rfl, accepting, rfl, rfl, rfl⟩

/-- R201 on written operands: both channels of the answer, the float channel where it is no NaN, and `sig_input`. -/
theorem computeInput_channels {s : State} {i f g : Word} (output : s.sigOutput = some (signalBuffer i f))
    (gain : s.params[gainEntry s.cfg]? = some (some (be32bytes g))) :
    (computeInput s).2.sigInput = (computeInput s).1 ∧ (computeInput s).1.take 4 = be32bytes (i * g) ∧
      ∀ w, fmul s.cfg.fmulMode f g = some w → (computeInput s).1.drop 4 = be32bytes w := by
  rw [computeInput_of_written output gain, signalBuffer]
  refine ⟨rfl, List.take_left' (be32bytes_length _), fun w product => ?_⟩
  rw [floatProduct_of_some product]
  exact List.drop_left' (be32bytes_length _)

/-- Settles O43: the gain write and the output leave their operands stored, and the input multiplies them. -/
theorem gainAndOutputReachTheNextInput : Obligations.GainAndOutputReachTheNextInput := by
  intro s i f g rest wf accepting memory inputs
  obtain ⟨t, setGain, cfg, accepting, inputs, gain⟩ := step_setGain wf accepting memory inputs
  rw [← cfg] at wf inputs gain ⊢
  obtain ⟨u, sigOut, cfg, accepting, inputs, params, output⟩ := step_sigOut wf accepting inputs
  rw [← cfg] at wf inputs gain ⊢
  rw [← params] at gain
  obtain ⟨kept, first, second⟩ := computeInput_channels (s := beginRequest { u with inputs := rest }) output gain
  have sigIn := step_produceSig wf accepting inputs
  exact ⟨_, _, run_snoc (run_snoc (run_succ 0 setGain) sigOut) sigIn, rfl, rfl, rfl, kept, first, second⟩

end Sys2Proof.Machine


namespace Sys2Proof.Machine

/-! ### Rounding a quotient by a power of two (R13) -/

/-- `roundShift` gives one of the two neighbours of the quotient. -/
theorem roundShift_bounds (m d : Nat) : m / 2 ^ d ≤ roundShift m d ∧ roundShift m d ≤ m / 2 ^ d + 1 := by
  simp only [roundShift]
  split <;> omega

/-- Settles O47: with `m = q * 2^d + r`, the choice between `q` and `q + 1` is by `2 * r` against `2^d`, and at equality
by the parity of `q`. -/
theorem roundingIsToNearestTiesToEven : Obligations.RoundingIsToNearestTiesToEven := by
  intro m d
  have positive : 0 < 2 ^ d := Nat.two_pow_pos d
  have remainder : m % 2 ^ d < 2 ^ d := Nat.mod_lt m positive
  have division : 2 ^ d * (m / 2 ^ d) + m % 2 ^ d = m := Nat.div_add_mod m (2 ^ d)
  simp only [roundShift]
  split
  next up =>
    rw [Nat.add_mul, Nat.one_mul, Nat.mul_comm (m / 2 ^ d)]
    omega
  next down =>
    rw [Nat.mul_comm (m / 2 ^ d)]
    omega

/-- Rounding sees the quotient alone. -/
theorem roundShift_mul_two_pow (m d k : Nat) : roundShift (m * 2 ^ k) (d + k) = roundShift m d := by
  have positive : 0 < 2 ^ k := Nat.two_pow_pos k
  have quotient : m * 2 ^ k / 2 ^ (d + k) = m / 2 ^ d := by rw [pow_add, Nat.mul_div_mul_right _ _ positive]
  have remainder : 2 * (m * 2 ^ k % 2 ^ (d + k)) = 2 * (m % 2 ^ d) * 2 ^ k := by
    rw [pow_add, Nat.mul_mod_mul_right, Nat.mul_assoc]
  simp only [roundShift, quotient, remainder]
  simp only [pow_add, Nat.mul_lt_mul_right positive, Nat.mul_right_cancel_iff positive]

/-- An exact quotient is not rounded. -/
theorem roundShift_exact (n d : Nat) : roundShift (n * 2 ^ d) d = n := by
  have whole : roundShift n 0 = n := by simp [roundShift, Nat.mod_one]
  rw [← roundShift_mul_two_pow n 0 d, Nat.zero_add] at whole
  exact whole

/-! ### The units of the last place (R13, R87) -/

theorem quantum_ge (m : Nat) (e : Int) : -149 ≤ quantum m e := le_max_right _ _

theorem quantum_ge_log2 (m : Nat) (e : Int) : (Nat.log2 m : Int) + e - 23 ≤ quantum m e := le_max_left _ _

theorem quantum_eq_of_ne {m : Nat} {e : Int} (normal : quantum m e ≠ -149) :
    quantum m e = (Nat.log2 m : Int) + e - 23 := by
  unfold quantum at normal ⊢
  omega

theorem unitsOf_of_le {e q : Int} (le : q ≤ e) (m : Nat) : unitsOf m e q = m * 2 ^ (e - q).toNat := if_pos le

theorem unitsOf_of_lt {e q : Int} (lt : e < q) (m : Nat) : unitsOf m e q = roundShift m (q - e).toNat :=
  if_neg (not_le.2 lt)

/-- The last place is 23 below the leading bit or higher, so the units fit 24 bits, up to a carry. -/
theorem unitsOf_le (m : Nat) (e : Int) : unitsOf m e (quantum m e) ≤ 2 ^ 24 := by
  have log : m < 2 ^ (Nat.log2 m + 1) := Nat.lt_log2_self
  have place := quantum_ge_log2 m e
  obtain le | lt := le_or_gt (quantum m e) e
  · rw [unitsOf_of_le le]
    calc m * 2 ^ (e - quantum m e).toNat
        ≤ 2 ^ (Nat.log2 m + 1) * 2 ^ (e - quantum m e).toNat := Nat.mul_le_mul_right _ log.le
      _ = 2 ^ (Nat.log2 m + 1 + (e - quantum m e).toNat) := (pow_add ..).symm
      _ ≤ 2 ^ 24 := Nat.pow_le_pow_right (by decide) (by omega)
  · rw [unitsOf_of_lt lt]
    obtain ⟨_, upper⟩ := roundShift_bounds m (quantum m e - e).toNat
    have quotient : m / 2 ^ (quantum m e - e).toNat < 2 ^ 24 := by
      rw [Nat.div_lt_iff_lt_mul (Nat.two_pow_pos _), ← pow_add]
      exact log.trans_le (Nat.pow_le_pow_right (by decide) (by omega))
    omega

/-- Above the subnormals the units fill 24 bits. -/
theorem unitsOf_ge {m : Nat} {e : Int} (positive : 0 < m) (normal : quantum m e ≠ -149) :
    2 ^ 23 ≤ unitsOf m e (quantum m e) := by
  have log : 2 ^ Nat.log2 m ≤ m := Nat.log2_self_le positive.ne'
  have place := quantum_eq_of_ne normal
  obtain le | lt := le_or_gt (quantum m e) e
  · rw [unitsOf_of_le le]
    calc 2 ^ 23 = 2 ^ Nat.log2 m * 2 ^ (e - quantum m e).toNat := by rw [← pow_add]; congr 1; omega
      _ ≤ m * 2 ^ (e - quantum m e).toNat := Nat.mul_le_mul_right _ log
  · rw [unitsOf_of_lt lt]
    obtain ⟨lower, _⟩ := roundShift_bounds m (quantum m e - e).toNat
    refine le_trans ?_ lower
    rw [Nat.le_div_iff_mul_le (Nat.two_pow_pos _), ← pow_add]
    exact (Nat.pow_le_pow_right (by decide) (by omega)).trans log

/-! ### Patterns by sign and magnitude (R87) -/

theorem signed_toNat {mag : Nat} (fits : mag < 2 ^ 31) (neg : Bool) :
    (signed neg mag).toNat = (if neg then 2 ^ 31 else 0) + mag := by
  rw [signed, BitVec.toNat_ofNat]
  split <;> omega

theorem signed_sign {mag : Nat} (fits : mag < 2 ^ 31) (neg : Bool) : (signed neg mag).getLsbD 31 = neg := by
  rw [BitVec.getLsbD, signed_toNat fits, Nat.testBit_eq_decide_div_mod_eq]
  cases neg <;> simp <;> omega

theorem signed_exponent {mag : Nat} (fits : mag < 2 ^ 31) (neg : Bool) :
    ((signed neg mag).extractLsb' 23 8).toNat = mag / 2 ^ 23 := by
  rw [BitVec.extractLsb'_toNat, signed_toNat fits, Nat.shiftRight_eq_div_pow]
  split <;> omega

theorem signed_fraction {mag : Nat} (fits : mag < 2 ^ 31) (neg : Bool) :
    ((signed neg mag).extractLsb' 0 23).toNat = mag % 2 ^ 23 := by
  rw [BitVec.extractLsb'_toNat, signed_toNat fits, Nat.shiftRight_zero]
  split <;> omega

/-- R87: the classes of the patterns, by sign and magnitude. -/
inductive Pattern : Word → F32 → Prop where
  | zero (neg : Bool) : Pattern (signed neg 0) (.zero neg)
  | subnormal (neg : Bool) (f : Nat) (positive : 0 < f) (fits : f < 2 ^ 23) :
      Pattern (signed neg f) (.finite neg f (-149))
  | normal (neg : Bool) (x f : Nat) (low : 0 < x) (high : x < 255) (fits : f < 2 ^ 23) :
      Pattern (signed neg (x * 2 ^ 23 + f)) (.finite neg (2 ^ 23 + f) ((x : Int) - 150))
  | inf (neg : Bool) : Pattern (signed neg infBits) (.inf neg)
  | nan (neg : Bool) (f : Nat) (positive : 0 < f) (fits : f < 2 ^ 23) : Pattern (signed neg (infBits + f)) .nan

/-- Every pattern is a sign and 31 magnitude bits. -/
theorem exists_signed (w : Word) : ∃ neg mag, mag < 2 ^ 31 ∧ w = signed neg mag := by
  refine ⟨w.getLsbD 31, w.toNat % 2 ^ 31, Nat.mod_lt _ (by decide), BitVec.eq_of_toNat_eq ?_⟩
  rw [signed_toNat (Nat.mod_lt _ (by decide)), BitVec.getLsbD, Nat.testBit_eq_decide_div_mod_eq]
  have bound := w.isLt
  simp only [decide_eq_true_eq]
  split <;> omega

/-- R87: the value of a pattern by its exponent and fraction. -/
theorem f32_signed {mag : Nat} (fits : mag < 2 ^ 31) (neg : Bool) :
    f32 (signed neg mag) =
      if mag / 2 ^ 23 = 255 then if mag % 2 ^ 23 = 0 then .inf neg else .nan
      else if mag / 2 ^ 23 = 0 then if mag % 2 ^ 23 = 0 then .zero neg else .finite neg (mag % 2 ^ 23) (-149)
      else .finite neg (2 ^ 23 + mag % 2 ^ 23) (((mag / 2 ^ 23 : Nat) : Int) - 150) := by
  simp only [f32, signed_sign fits, signed_exponent fits, signed_fraction fits]

/-- Every pattern has the value of its class. -/
theorem pattern_f32 (w : Word) : Pattern w (f32 w) := by
  obtain ⟨neg, mag, fits, rfl⟩ := exists_signed w
  rw [f32_signed fits]
  split
  next all =>
    split
    next zeroFraction =>
      obtain rfl : mag = infBits := by unfold infBits; omega
      exact .inf neg
    next nonzeroFraction =>
      obtain ⟨f, rfl⟩ : ∃ f, mag = infBits + f := ⟨mag % 2 ^ 23, by unfold infBits; omega⟩
      unfold infBits at nonzeroFraction
      exact .nan neg f (by omega) (by unfold infBits at fits; omega)
  next notAll =>
    split
    next least =>
      have small : mag % 2 ^ 23 = mag := by omega
      rw [small]
      split
      next zeroFraction => exact zeroFraction ▸ .zero neg
      next nonzeroFraction => exact .subnormal neg mag (by omega) (by omega)
    next normal =>
      have parts : mag = mag / 2 ^ 23 * 2 ^ 23 + mag % 2 ^ 23 := (Nat.div_add_mod' ..).symm
      have pattern := Pattern.normal neg (mag / 2 ^ 23) (mag % 2 ^ 23) (by omega) (by omega) (Nat.mod_lt _ (by decide))
      rwa [← parts] at pattern

/-- A pattern determines its value. -/
theorem Pattern.f32_eq {w : Word} {v : F32} (h : Pattern w v) : f32 w = v := by
  cases h with
  | zero neg => cases neg <;> decide
  | inf neg => cases neg <;> decide
  | subnormal neg f positive fits =>
    rw [f32_signed (by omega), if_neg (by omega), if_pos (by omega), if_neg (by omega), Nat.mod_eq_of_lt fits]
  | normal neg x f low high fits =>
    have exponent : (x * 2 ^ 23 + f) / 2 ^ 23 = x := by omega
    have fraction : (x * 2 ^ 23 + f) % 2 ^ 23 = f := by omega
    rw [f32_signed (by omega), exponent, fraction, if_neg (by omega), if_neg (by omega)]
  | nan neg f positive fits =>
    rw [infBits, f32_signed (by omega), if_pos (by omega), if_neg (by omega)]

/-! ### The value of a rounded pattern (R13, R87, R205) -/

/-- A number of units that no carry takes past the exponent field is worth itself. -/
theorem pattern_of_units {n : Nat} {q : Int} (neg : Bool) (low : -149 ≤ q) (positive : 0 < n) (fits : n ≤ 2 ^ 24)
    (full : q ≠ -149 → 2 ^ 23 ≤ n) (finite : (q + 149).toNat * 2 ^ 23 + n < infBits) :
    ∃ n' q', Pattern (signed neg (magnitudeOf n q)) (.finite neg n' q') ∧ q ≤ q' ∧ n' * 2 ^ (q' - q).toNat = n := by
  rw [magnitudeOf, min_eq_left finite.le]
  unfold infBits at finite
  obtain ⟨x, rfl⟩ : ∃ x : Nat, q = (x : Int) - 149 := ⟨(q + 149).toNat, by omega⟩
  have exponent : ((x : Int) - 149 + 149).toNat = x := by omega
  rw [exponent] at finite ⊢
  obtain small | middle | rfl : n < 2 ^ 23 ∨ (2 ^ 23 ≤ n ∧ n < 2 ^ 24) ∨ n = 2 ^ 24 := by omega
  · obtain rfl : x = 0 := by
      by_contra nonzero
      exact absurd (full (by omega)) (by omega)
    refine ⟨n, -149, ?_, by omega, by simp⟩
    rw [Nat.zero_mul, Nat.zero_add]
    exact .subnormal neg n positive small
  · have carried : x * 2 ^ 23 + n = (x + 1) * 2 ^ 23 + (n - 2 ^ 23) := by omega
    have significand : n = 2 ^ 23 + (n - 2 ^ 23) := by omega
    refine ⟨2 ^ 23 + (n - 2 ^ 23), ((x + 1 : Nat) : Int) - 150, ?_, by omega, ?_⟩
    · rw [carried]
      exact .normal neg (x + 1) (n - 2 ^ 23) (by omega) (by omega) (by omega)
    · have same : (((x + 1 : Nat) : Int) - 150 - ((x : Int) - 149)).toNat = 0 := by omega
      rw [same, pow_zero, Nat.mul_one, ← significand]
  · have carried : x * 2 ^ 23 + 2 ^ 24 = (x + 2) * 2 ^ 23 + 0 := by omega
    refine ⟨2 ^ 23 + 0, ((x + 2 : Nat) : Int) - 150, ?_, by omega, ?_⟩
    · rw [carried]
      exact .normal neg (x + 2) 0 (by omega) (by omega) (by decide)
    · have next : (((x + 2 : Nat) : Int) - 150 - ((x : Int) - 149)).toNat = 1 := by omega
      rw [next]
      rfl

/-- Settles O48: the units fit their field up to a carry, so the magnitude reads back as them. -/
theorem roundedPatternsHaveTheirValue : Obligations.RoundedPatternsHaveTheirValue := by
  intro neg m e positive
  refine ⟨fun finite nonzero => ?_, fun overflow => ?_, fun zero => ?_⟩
  · obtain ⟨n, q, pattern, le, value⟩ := pattern_of_units neg (quantum_ge m e) nonzero (unitsOf_le m e)
      (unitsOf_ge positive) finite
    exact ⟨n, q, pattern.f32_eq, le, value⟩
  · rw [round32, magnitudeOf, min_eq_right overflow]
    exact (Pattern.inf neg).f32_eq
  · have least : quantum m e = -149 := by
      by_contra normal
      have full := unitsOf_ge positive normal
      omega
    rw [round32, zero, least]
    exact (Pattern.zero neg).f32_eq

end Sys2Proof.Machine


namespace Sys2Proof.Machine

/-! ### Rounding depends on the value alone (R13) -/

theorem log2_mul_two_pow {m : Nat} (positive : 0 < m) (k : Nat) : Nat.log2 (m * 2 ^ k) = Nat.log2 m + k := by
  have low : 2 ^ Nat.log2 m ≤ m := Nat.log2_self_le positive.ne'
  have high : m < 2 ^ (Nat.log2 m + 1) := Nat.lt_log2_self
  rw [Nat.log2_eq_iff (Nat.mul_pos positive (Nat.two_pow_pos k)).ne', Nat.add_right_comm, pow_add, pow_add _ _ k]
  exact ⟨Nat.mul_le_mul_right _ low, Nat.mul_lt_mul_of_pos_right high (Nat.two_pow_pos k)⟩

theorem quantum_mul_two_pow {m : Nat} (positive : 0 < m) (k : Nat) (e : Int) :
    quantum (m * 2 ^ k) e = quantum m (e + k) := by
  rw [quantum, quantum, log2_mul_two_pow positive]
  push_cast
  congr 1
  ring

/-- The units of a value are the same whichever power of two is left in the significand. -/
theorem unitsOf_mul_two_pow (m k : Nat) (e q : Int) : unitsOf (m * 2 ^ k) e q = unitsOf m (e + k) q := by
  obtain below | between | above : q ≤ e ∨ (e < q ∧ q ≤ e + k) ∨ e + k < q := by omega
  · have exponent : (e + k - q).toNat = k + (e - q).toNat := by omega
    rw [unitsOf_of_le below, unitsOf_of_le (by omega), exponent, pow_add, Nat.mul_assoc]
  · obtain ⟨lt, le⟩ := between
    have exponent : k = (e + k - q).toNat + (q - e).toNat := by omega
    rw [unitsOf_of_lt lt, unitsOf_of_le le]
    nth_rewrite 1 [exponent]
    rw [pow_add, ← Nat.mul_assoc, roundShift_exact]
  · have exponent : (q - e).toNat = (q - (e + k)).toNat + k := by omega
    rw [unitsOf_of_lt (by omega), unitsOf_of_lt above, exponent, roundShift_mul_two_pow]

theorem round32_mul_two_pow {m : Nat} (positive : 0 < m) (neg : Bool) (k : Nat) (e : Int) :
    round32 neg (m * 2 ^ k) e = round32 neg m (e + k) := by
  rw [round32, round32, quantum_mul_two_pow positive, unitsOf_mul_two_pow]

/-- `m * 2^e` and `m' * 2^e'` are the same value, compared at a common exponent. -/
def SameValue (m : Nat) (e : Int) (m' : Nat) (e' : Int) : Prop :=
  ∃ a b : Nat, m * 2 ^ a = m' * 2 ^ b ∧ e - a = e' - b

theorem SameValue.pos {m m' : Nat} {e e' : Int} (h : SameValue m e m' e') (positive : 0 < m') : 0 < m := by
  obtain ⟨a, b, value, _⟩ := h
  have product : 0 < m * 2 ^ a := value ▸ Nat.mul_pos positive (Nat.two_pow_pos b)
  exact Nat.pos_of_mul_pos_right product

/-- A product with equal values has equal values. -/
theorem SameValue.mul_left {m m' : Nat} {e e' : Int} (h : SameValue m e m' e') (n : Nat) (d : Int) :
    SameValue (n * m) (d + e) (n * m') (d + e') := by
  obtain ⟨a, b, value, exponent⟩ := h
  exact ⟨a, b, by rw [Nat.mul_assoc, value, Nat.mul_assoc], by omega⟩

/-- Equal values round to equal patterns. -/
theorem SameValue.round32_eq {m m' : Nat} {e e' : Int} (h : SameValue m e m' e') (positive : 0 < m') (neg : Bool) :
    round32 neg m e = round32 neg m' e' := by
  have positive' := h.pos positive
  obtain ⟨a, b, value, exponent⟩ := h
  calc round32 neg m e = round32 neg (m * 2 ^ a) (e - a) := by
        rw [round32_mul_two_pow positive', Int.sub_add_cancel]
    _ = round32 neg (m' * 2 ^ b) (e' - b) := by rw [value, exponent]
    _ = round32 neg m' e' := by rw [round32_mul_two_pow positive, Int.sub_add_cancel]

/-! ### The gain as a binary32 datum (R13, R204) -/

theorem f32_cvtU32F32_zero : f32 (cvtU32F32 0) = .zero false := by decide

theorem toNat_pos_of_ne_zero {g : Word} (nonzero : g ≠ 0) : 0 < g.toNat :=
  Nat.pos_of_ne_zero fun zero => nonzero (BitVec.eq_of_toNat_eq zero)

/-- The last place of an integer of at most 32 bits is 2^8 or lower, and it is no subnormal. -/
theorem quantum_gain (g : Word) : -23 ≤ quantum g.toNat 0 ∧ quantum g.toNat 0 ≤ 8 := by
  have log : Nat.log2 g.toNat < 32 := by
    by_cases zero : g.toNat = 0
    · rw [zero]; decide
    · exact (Nat.log2_lt zero).2 g.isLt
  unfold quantum
  omega

/-- A gain that is not 0 converts to a finite positive datum, worth its units. -/
theorem f32_cvtU32F32 {g : Word} (nonzero : g ≠ 0) :
    ∃ n q, f32 (cvtU32F32 g) = .finite false n q ∧ quantum g.toNat 0 ≤ q ∧
      n * 2 ^ (q - quantum g.toNat 0).toNat = unitsOf g.toNat 0 (quantum g.toNat 0) := by
  have positive := toNat_pos_of_ne_zero nonzero
  obtain ⟨low, high⟩ := quantum_gain g
  have most := unitsOf_le g.toNat 0
  have least := unitsOf_ge (m := g.toNat) (e := 0) positive (by omega)
  obtain ⟨finite, _⟩ := roundedPatternsHaveTheirValue false g.toNat 0 positive
  rw [cvtU32F32, if_neg nonzero]
  exact finite (by unfold infBits; omega) (by omega)

/-- R204: a gain of at most 24 significant bits converts exactly. -/
theorem f32_cvtU32F32_exact {g : Word} {m k : Nat} (nonzero : g ≠ 0) (small : m < 2 ^ 24)
    (exact : g.toNat = m * 2 ^ k) :
    ∃ n q, f32 (cvtU32F32 g) = .finite false n q ∧ SameValue n q g.toNat 0 := by
  obtain ⟨n, q, datum, le, value⟩ := f32_cvtU32F32 nonzero
  refine ⟨n, q, datum, ?_⟩
  obtain fine | coarse := le_or_gt (quantum g.toNat 0) 0
  · rw [unitsOf_of_le fine] at value
    exact ⟨_, _, value, by omega⟩
  · have positive : 0 < m := Nat.pos_of_mul_pos_right (exact ▸ toNat_pos_of_ne_zero nonzero)
    have log : Nat.log2 m < 24 := (Nat.log2_lt positive.ne').2 small
    have place : quantum g.toNat 0 = (Nat.log2 m + k : Nat) + 0 - 23 := by
      rw [← log2_mul_two_pow positive, ← exact]
      exact quantum_eq_of_ne (by omega)
    obtain ⟨d, divides⟩ : ∃ d, g.toNat = d * 2 ^ (quantum g.toNat 0).toNat := by
      refine ⟨m * 2 ^ (k - (quantum g.toNat 0).toNat), ?_⟩
      rw [Nat.mul_assoc, ← pow_add, Nat.sub_add_cancel (by omega), exact]
    have units : unitsOf g.toNat 0 (quantum g.toNat 0) = d := by
      rw [unitsOf_of_lt coarse, sub_zero]
      nth_rewrite 1 [divides]
      exact roundShift_exact _ _
    refine ⟨q.toNat, 0, ?_, by omega⟩
    have exponent : q.toNat = (q - quantum g.toNat 0).toNat + (quantum g.toNat 0).toNat := by omega
    rw [exponent, pow_add, ← Nat.mul_assoc, value, units, ← divides, pow_zero, Nat.mul_one]

/-! ### The product, class by class of the float operand, in both modes (R204, R205) -/

theorem fmul_of_nan {fb : Word} (nan : f32 fb = .nan) (mode : FmulMode) (g : Word) : fmul mode fb g = none := by
  cases mode with
  | convertThenMultiply => simp only [fmul, fmul32, nan]
  | singleRounding => simp only [fmul, fmulSingle, nan]

theorem fmul_of_inf_zero {fb : Word} {neg : Bool} (inf : f32 fb = .inf neg) (mode : FmulMode) :
    fmul mode fb 0 = none := by
  cases mode with
  | convertThenMultiply => simp only [fmul, fmul32, inf, f32_cvtU32F32_zero]
  | singleRounding => simp only [fmul, fmulSingle, inf, if_true]

theorem fmul_of_inf {fb g : Word} {neg : Bool} (inf : f32 fb = .inf neg) (nonzero : g ≠ 0) (mode : FmulMode) :
    fmul mode fb g = some (signed neg infBits) := by
  cases mode with
  | convertThenMultiply =>
    obtain ⟨n, q, datum, _⟩ := f32_cvtU32F32 nonzero
    simp only [fmul, fmul32, inf, datum, Bool.xor_false]
  | singleRounding => simp only [fmul, fmulSingle, inf, if_neg nonzero]

theorem fmul_of_zero {fb : Word} {neg : Bool} (zero : f32 fb = .zero neg) (mode : FmulMode) (g : Word) :
    fmul mode fb g = some (signed neg 0) := by
  cases mode with
  | convertThenMultiply =>
    by_cases gain : g = 0
    · simp only [fmul, fmul32, zero, gain, f32_cvtU32F32_zero, Bool.xor_false]
    · obtain ⟨n, q, datum, _⟩ := f32_cvtU32F32 gain
      simp only [fmul, fmul32, zero, datum, Bool.xor_false]
  | singleRounding => simp only [fmul, fmulSingle, zero]

theorem fmul_of_finite_zero {fb : Word} {neg : Bool} {m : Nat} {e : Int} (finite : f32 fb = .finite neg m e)
    (mode : FmulMode) : fmul mode fb 0 = some (signed neg 0) := by
  cases mode with
  | convertThenMultiply => simp only [fmul, fmul32, finite, f32_cvtU32F32_zero, Bool.xor_false]
  | singleRounding => simp only [fmul, fmulSingle, finite, if_true]

theorem f32_finite_pos {w : Word} {neg : Bool} {m : Nat} {e : Int} (finite : f32 w = .finite neg m e) : 0 < m := by
  have pattern := pattern_f32 w
  rw [finite] at pattern
  cases pattern with
  | subnormal _ _ positive => exact positive
  | normal => omega

/-- R204: by an exact gain both modes round the exact product once. -/
theorem fmul_of_finite_exact {fb g : Word} {neg : Bool} {m n k : Nat} {e : Int} (finite : f32 fb = .finite neg m e)
    (nonzero : g ≠ 0) (small : n < 2 ^ 24) (exact : g.toNat = n * 2 ^ k) (mode : FmulMode) :
    fmul mode fb g = some (round32 neg (m * g.toNat) e) := by
  cases mode with
  | convertThenMultiply =>
    obtain ⟨n', q, datum, value⟩ := f32_cvtU32F32_exact nonzero small exact
    have product := value.mul_left m e
    rw [add_zero] at product
    have positive : 0 < m * g.toNat := Nat.mul_pos (f32_finite_pos finite) (toNat_pos_of_ne_zero nonzero)
    simp only [fmul, fmul32, finite, datum, Bool.xor_false, product.round32_eq positive]
  | singleRounding => simp only [fmul, fmulSingle, finite, if_neg nonzero]

/-- Settles O45: class by class of the float operand, both modes give the same product; the rule's example differs. -/
theorem roundingModesDifferOnlyOnInexactGains : Obligations.RoundingModesDifferOnlyOnInexactGains := by
  refine ⟨?_, by decide, by decide⟩
  rintro fb g ⟨m, k, small, exact⟩
  cases datum : f32 fb with
  | nan => rw [fmul_of_nan datum, fmul_of_nan datum]
  | zero neg => rw [fmul_of_zero datum, fmul_of_zero datum]
  | inf neg =>
    by_cases zero : g = 0
    · rw [zero, fmul_of_inf_zero datum, fmul_of_inf_zero datum]
    · rw [fmul_of_inf datum zero, fmul_of_inf datum zero]
  | finite neg n e =>
    by_cases zero : g = 0
    · rw [zero, fmul_of_finite_zero datum, fmul_of_finite_zero datum]
    · rw [fmul_of_finite_exact datum zero small exact, fmul_of_finite_exact datum zero small exact]

/-! ### Special values, and a gain of 1 (R205, R209) -/

/-- R87: the check of a NaN, by magnitude. -/
theorem isNaN_signed {mag : Nat} (fits : mag < 2 ^ 31) (neg : Bool) :
    isNaN (signed neg mag) = true ↔ mag / 2 ^ 23 = 255 ∧ mag % 2 ^ 23 ≠ 0 := by
  rw [isNaN, Bool.and_eq_true, beq_iff_eq, bne_iff_ne, ne_eq, ← BitVec.toNat_inj, ← BitVec.toNat_inj,
    signed_exponent fits, signed_fraction fits]
  rfl

/-- R87: the check of a NaN pattern is the class NaN. -/
theorem isNaN_iff {w : Word} : isNaN w = true ↔ f32 w = .nan := by
  have pattern := pattern_f32 w
  generalize f32 w = v at pattern
  cases pattern with
  | zero neg => exact iff_of_false (by rw [isNaN_signed (by decide)]; decide) nofun
  | subnormal neg f positive fits => exact iff_of_false (by rw [isNaN_signed (by omega)]; omega) nofun
  | normal neg x f low high fits => exact iff_of_false (by rw [isNaN_signed (by omega)]; omega) nofun
  | inf neg => exact iff_of_false (by rw [isNaN_signed (by decide)]; decide) nofun
  | nan neg f positive fits => exact iff_of_true (by rw [infBits, isNaN_signed (by omega)]; omega) rfl

/-- The sign bit of a pattern, alone. -/
theorem signed_and_signBit {mag : Nat} (fits : mag < 2 ^ 31) (neg : Bool) :
    signed neg mag &&& 0x80000000 = signed neg 0 := by
  apply BitVec.eq_of_toNat_eq
  have bit : (0x80000000 : Word).toNat = 2 ^ 31 := rfl
  rw [BitVec.toNat_and, bit, Nat.and_two_pow, ← BitVec.getLsbD, signed_sign fits, signed_toNat (by decide)]
  cases neg <;> rfl

/-- R205: a pattern with exponent below 255 times 0 is a zero of its sign. -/
theorem fmul_zero_of_exponent_ne {fb : Word} (below : fb.extractLsb' 23 8 ≠ 0xFF#8) (mode : FmulMode) :
    fmul mode fb 0 = some (fb &&& 0x80000000) := by
  have pattern := pattern_f32 fb
  have exponent {mag : Nat} (fits : mag < 2 ^ 31) (neg : Bool) (all : mag / 2 ^ 23 = 255) :
      (signed neg mag).extractLsb' 23 8 = 0xFF#8 := BitVec.eq_of_toNat_eq ((signed_exponent fits neg).trans all)
  generalize datum : f32 fb = v at pattern
  cases pattern with
  | zero neg => rw [fmul_of_zero datum, signed_and_signBit (by decide)]
  | subnormal neg f positive fits => rw [fmul_of_finite_zero datum, signed_and_signBit (by omega)]
  | normal neg x f low high fits => rw [fmul_of_finite_zero datum, signed_and_signBit (by omega)]
  | inf neg => exact absurd (exponent (by decide) neg (by decide)) below
  | nan neg f positive fits =>
    unfold infBits at below
    exact absurd (exponent (by omega) neg (by omega)) below

/-- Settles O44: each special operand is of one class, whose product in both modes is known. -/
theorem floatProductSpecialValues : Obligations.FloatProductSpecialValues := by
  intro mode fb g
  refine ⟨fun nan => fmul_of_nan (isNaN_iff.1 nan) mode g, ?_, ?_, ?_, ?_⟩
  · rintro inf rfl
    obtain ⟨neg, rfl⟩ : ∃ neg, fb = signed neg infBits := inf.elim (⟨false, ·⟩) (⟨true, ·⟩)
    exact fmul_of_inf_zero (Pattern.inf neg).f32_eq mode
  · intro inf nonzero
    obtain ⟨neg, rfl⟩ : ∃ neg, fb = signed neg infBits := inf.elim (⟨false, ·⟩) (⟨true, ·⟩)
    exact fmul_of_inf (Pattern.inf neg).f32_eq nonzero mode
  · intro zero
    obtain ⟨neg, rfl⟩ : ∃ neg, fb = signed neg 0 := zero.elim (⟨false, ·⟩) (⟨true, ·⟩)
    exact fmul_of_zero (Pattern.zero neg).f32_eq mode g
  · rintro below rfl
    exact fmul_zero_of_exponent_ne below mode

/-- A finite pattern is worth a whole number of units, so rounding its value gives it back. -/
theorem round32_of_finite {w : Word} {neg : Bool} {m : Nat} {e : Int} (finite : f32 w = .finite neg m e) :
    round32 neg m e = w := by
  have pattern := pattern_f32 w
  rw [finite] at pattern
  have units : unitsOf m e e = m := by rw [unitsOf_of_le le_rfl, sub_self, Int.toNat_zero, pow_zero, Nat.mul_one]
  cases pattern with
  | subnormal _ _ positive fits =>
    have log : Nat.log2 m < 23 := (Nat.log2_lt positive.ne').2 fits
    have place : quantum m (-149) = -149 := by unfold quantum; omega
    have magnitude : magnitudeOf m (-149) = m := by unfold magnitudeOf infBits; omega
    rw [round32, place, units, magnitude]
  | normal _ x f low high fits =>
    have log : Nat.log2 (2 ^ 23 + f) = 23 := (Nat.log2_eq_iff (by omega)).2 ⟨by omega, by omega⟩
    have place : quantum (2 ^ 23 + f) ((x : Int) - 150) = (x : Int) - 150 := by rw [quantum, log]; omega
    have magnitude : magnitudeOf (2 ^ 23 + f) ((x : Int) - 150) = x * 2 ^ 23 + f := by
      unfold magnitudeOf infBits
      omega
    rw [round32, place, units, magnitude]

/-- Settles O46: class by class; a gain of 1 is exact, so a finite pattern's own value is rounded. -/
theorem gainOneReturnsTheFloatUnchanged : Obligations.GainOneReturnsTheFloatUnchanged := by
  intro mode fb notNaN
  have pattern := pattern_f32 fb
  generalize datum : f32 fb = v at pattern
  cases pattern with
  | zero neg => exact fmul_of_zero datum mode 1
  | inf neg => exact fmul_of_inf datum (by decide) mode
  | nan => exact absurd (isNaN_iff.2 datum) (by simp [notNaN])
  | subnormal | normal =>
    have once := fmul_of_finite_exact (g := 1) (n := 1) (k := 0) datum (by decide) (by decide) (by decide) mode
    have one : (1 : Word).toNat = 1 := rfl
    rw [once, one, Nat.mul_one, round32_of_finite datum]

end Sys2Proof.Machine
